-- ==== Sys2Proof/Word.lean ====
section
/-! DEFINITION. Bytes, tables of a fixed number of records, and sets over a fixed range. -/

namespace Sys2Proof

/-- One byte. -/
abbrev Byte := BitVec 8

/-- A table of `n` records of one kind, indexed 0 to `n - 1`. The length travels with the data, so that
an index below `n` always names a record. -/
structure Table (α : Type) (n : Nat) where
  cells : List α
  length_eq : cells.length = n
  deriving DecidableEq, Repr

variable {α β : Type} {n : Nat}

/-- The record at index `i`. -/
def Table.get (t : Table α n) (i : Fin n) : α :=
  t.cells[i.val]'(by rw [t.length_eq]; exact i.isLt)

/-- The table with the record at index `i` replaced. -/
def Table.set (t : Table α n) (i : Fin n) (a : α) : Table α n :=
  ⟨t.cells.set i.val a, by rw [List.length_set, t.length_eq]⟩

/-- The table whose record at index `i` is `f i`. -/
def Table.ofFn (f : Fin n → α) : Table α n :=
  ⟨List.ofFn f, List.length_ofFn⟩

/-- The table with the same record at every index. -/
def Table.fill (n : Nat) (a : α) : Table α n :=
  ⟨List.replicate n a, List.length_replicate⟩

/-- The table with `f` applied to every record. -/
def Table.map (f : α → β) (t : Table α n) : Table β n :=
  ⟨t.cells.map f, by rw [List.length_map, t.length_eq]⟩

/-- The lowest index whose record satisfies `p`. -/
def Table.findLowest (t : Table α n) (p : α → Bool) : Option (Fin n) :=
  (List.finRange n).find? (fun i => p (t.get i))

/-- The indices whose records satisfy `p`, in ascending order. -/
def Table.indices (t : Table α n) (p : α → Bool) : List (Fin n) :=
  (List.finRange n).filter (fun i => p (t.get i))

/-- A set of numbers below `n`, as its membership table. -/
abbrev FinSet (n : Nat) := Table Bool n

/-- Membership. -/
def FinSet.has (s : FinSet n) (i : Fin n) : Bool := Table.get s i

/-- The empty set. -/
def FinSet.empty (n : Nat) : FinSet n := Table.fill n false

/-- The set of the numbers that satisfy `p`. -/
def FinSet.of (p : Fin n → Bool) : FinSet n := Table.ofFn p

/-- The set with one more member. -/
def FinSet.insert (s : FinSet n) (i : Fin n) : FinSet n := Table.set s i true

/-- The set without `i`. -/
def FinSet.erase (s : FinSet n) (i : Fin n) : FinSet n := Table.set s i false

/-- The union of two sets. -/
def FinSet.union (s t : FinSet n) : FinSet n := FinSet.of (fun i => s.has i || t.has i)

/-- True of the set with no member. -/
def FinSet.isEmpty (s : FinSet n) : Bool := s.cells.all (fun b => !b)

/-- The set as a number: bit `i` stands for the number `i`. -/
def FinSet.toNat (s : FinSet n) : Nat := s.cells.foldr (fun b acc => b.toNat + 2 * acc) 0

end Sys2Proof
end

