-- ==== Sys2Proof/Syntax.lean ====
section
/-! DEFINITION. The commands and events of the part: one constructor for each row of spec/opcode_table.json. -/

namespace Sys2Proof

/-- A requester number, 0 to 15. -/
abbrev Requester := Fin 16

/-- A tag, 0 to 63. -/
abbrev Tag := Fin 64

/-- The kind field of a request; `unknown` is kind code 3 (R176). -/
inductive RequestKind where
  | read
  | write
  | sync
  | unknown
  deriving DecidableEq, Repr

/-- A request on the requester link (R132, Table 7-1; widths of Table 12-1). -/
structure Request where
  kind : RequestKind
  requester : Requester
  tag : Tag
  aoc : Bool
  length : Fin 128
  address : BitVec 40
  /-- The bytes of a WRITE in address order; a READ or SYNC carries none (R176). -/
  data : List Byte
  deriving DecidableEq, Repr

/-- A response on the memory link (Table 6-2, Table 12-4): the raw status code, and the data when present. -/
structure MemoryResponse where
  slot : Fin 16
  status : BitVec 2
  data : Option (Table Byte 64)
  deriving DecidableEq, Repr

/-- Where a management frame was cut (R167). -/
inductive FrameCut where
  /-- Within the request part, after the whole bytes `received`. -/
  | inRequest (received : List Byte)
  /-- In the turnaround byte or the answer part, after `clocked` whole bytes since the end of the request part. -/
  | inAnswer (clocked : Nat)
  /-- By the power-on reset: while the reset is held a frame is within its request part. Chip-select stays asserted, and what comes
  of that frame after the release is ignored (R175). -/
  | byReset
  deriving DecidableEq, Repr

/-- A command or event of the part. `time` is the moment of the act in microseconds, carried by the acts that read
the clock. Arguments of management commands are the raw fields of Table 12-6. -/
inductive Instr where
  /-- REQUEST_ARRIVAL (R135). -/
  | requestArrival (q : Request)
  /-- TAKE (R142). -/
  | take (time : Nat)
  /-- GRANT (R120). -/
  | grant (time : Nat)
  /-- MEMORY_LINK_ACCEPT (R114). -/
  | memoryLinkAccept
  /-- MEMORY_RESPONSE (R121). -/
  | memoryResponse (time : Nat) (r : MemoryResponse)
  /-- SLOT_DEADLINE (R125). -/
  | slotDeadline (slot : Fin 16)
  /-- GATHER_DEADLINE (R12). -/
  | gatherDeadline (entry : Fin 32)
  /-- PACING_END (R108). -/
  | pacingEnd
  /-- SUPPRESSION_DISCARD (R60). -/
  | suppressionDiscard
  /-- READ_RESPONSE (R84). -/
  | readResponse
  /-- SYNC_RESPONSE (R65). -/
  | syncResponse
  /-- FLUSH_COMPLETE (R68). -/
  | flushComplete
  /-- GET_ITEM (R170). -/
  | getItem (item : Byte)
  /-- SET_ITEM (R171). -/
  | setItem (item : Byte) (value : BitVec 32)
  /-- READ_STATUS (R172). -/
  | readStatus
  /-- READ_FLAGS (R173). -/
  | readFlags
  /-- READ_COUNTERS (R164). -/
  | readCounters
  /-- CLEAR_COUNTERS (R164). -/
  | clearCounters
  /-- READ_SLOTS (R129). -/
  | readSlots
  /-- DEFINE_REGION (R93): `size` counts 64 KiB units (R178). -/
  | defineRegion (index : Byte) (base : BitVec 40) (size : BitVec 32) (mode : Byte) (pattern : Table Byte 8)
  /-- RETIRE_REGION (R94). -/
  | retireRegion (index : Byte)
  /-- READ_REGION (R95). -/
  | readRegion (index : Byte)
  /-- SET_RULE (R50): `base` and `limit` are line numbers (R178). -/
  | setRule (index : Byte) (base limit : BitVec 40) (requester scope suppress note : Byte)
  /-- CLEAR_RULE (R51). -/
  | clearRule (index : Byte)
  /-- READ_RULE (R51). -/
  | readRule (index : Byte)
  /-- GO_ONLINE (R150). -/
  | goOnline
  /-- QUIESCE (R152). -/
  | quiesce
  /-- RESUME (R156). -/
  | resume
  /-- FLUSH (R67). -/
  | flush
  /-- RESET_BRIDGE (R157). -/
  | resetBridge
  /-- RECLAIM_SLOTS (R128). -/
  | reclaimSlots
  /-- TAKE_NOTICE (R161). -/
  | takeNotice
  /-- NOTICE_REMOVED (R161). -/
  | noticeRemoved
  /-- UNKNOWN_COMMAND (R166). -/
  | unknownCommand (code : Byte)
  /-- BROKEN_FRAME (R167). -/
  | brokenFrame (cut : FrameCut)
  /-- POWER_ON_RESET (R158). -/
  | powerOnReset
  /-- RESET_RELEASED (R158). -/
  | resetReleased
  deriving DecidableEq, Repr

end Sys2Proof
end

