-- ==== Sys2Proof/Decode.lean ====
section
/-! DEFINITION. The decoder of table words (the table gives its rows no bits) and, from Table 12-6, the request parts of
the management frames: their lengths, a decoder that is total on any bytes, and an encoder. -/

namespace Sys2Proof

/-- The command that a word spells by the table's bits. spec/opcode_table.json gives no row any bits, so no
word spells a command (log entry 21). -/
def decodeTableWord (_nbits _w : Nat) : Option Instr := none

/-- The `k` low bytes of `v`, most significant first (R178). -/
def bigEndian : Nat → Nat → List Byte
  | 0, _ => []
  | k + 1, v => BitVec.ofNat 8 (v / 256 ^ k) :: bigEndian k v

/-- The number that bytes carry, most significant first (R178). -/
def ofBigEndian (bytes : List Byte) : Nat :=
  bytes.foldl (fun acc b => 256 * acc + b.toNat) 0

/-- The twenty command codes (Table 12-6). -/
def commandCodes : List Byte :=
  [0x01#8, 0x02#8, 0x03#8, 0x04#8, 0x05#8, 0x06#8, 0x07#8, 0x08#8, 0x09#8, 0x0A#8, 0x0B#8, 0x0C#8, 0x0D#8,
   0x10#8, 0x11#8, 0x12#8, 0x13#8, 0x14#8, 0x15#8, 0x16#8]

/-- The length in bytes of the request part that a command code opens, the code included (Table 12-6); an unknown
code has a request part of one byte (R166). -/
def requestLength (code : Byte) : Nat :=
  if code = 0x01#8 then 2
  else if code = 0x02#8 then 6
  else if code = 0x08#8 then 20
  else if code = 0x09#8 then 2
  else if code = 0x0A#8 then 2
  else if code = 0x0B#8 then 16
  else if code = 0x0C#8 then 2
  else if code = 0x0D#8 then 2
  else 1

/-- A 5-byte value (R178). -/
def word40 (b4 b3 b2 b1 b0 : Byte) : BitVec 40 := BitVec.ofNat 40 (ofBigEndian [b4, b3, b2, b1, b0])

/-- A 4-byte value (R178). -/
def word32 (b3 b2 b1 b0 : Byte) : BitVec 32 := BitVec.ofNat 32 (ofBigEndian [b3, b2, b1, b0])

/-- The command of a code without arguments. -/
def decodePlain (code : Byte) : Instr :=
  if code = 0x03#8 then .readStatus
  else if code = 0x04#8 then .readCounters
  else if code = 0x05#8 then .clearCounters
  else if code = 0x06#8 then .readFlags
  else if code = 0x07#8 then .readSlots
  else if code = 0x10#8 then .goOnline
  else if code = 0x11#8 then .quiesce
  else if code = 0x12#8 then .resume
  else if code = 0x13#8 then .flush
  else if code = 0x14#8 then .resetBridge
  else if code = 0x15#8 then .reclaimSlots
  else if code = 0x16#8 then .takeNotice
  else .unknownCommand code

/-- The command that a whole request part carries (R166, Table 12-6); none where the bytes are no whole request
part. -/
def decodeFrame (bytes : List Byte) : Option Instr :=
  match bytes with
  | [code] => if requestLength code = 1 then some (decodePlain code) else none
  | [code, a] =>
    if code = 0x01#8 then some (.getItem a)
    else if code = 0x09#8 then some (.retireRegion a)
    else if code = 0x0A#8 then some (.readRegion a)
    else if code = 0x0C#8 then some (.clearRule a)
    else if code = 0x0D#8 then some (.readRule a)
    else none
  | [code, a, v3, v2, v1, v0] => if code = 0x02#8 then some (.setItem a (word32 v3 v2 v1 v0)) else none
  | [code, a, b4, b3, b2, b1, b0, l4, l3, l2, l1, l0, q, sc, su, no] =>
    if code = 0x0B#8 then some (.setRule a (word40 b4 b3 b2 b1 b0) (word40 l4 l3 l2 l1 l0) q sc su no) else none
  | [code, a, b4, b3, b2, b1, b0, z3, z2, z1, z0, m, p0, p1, p2, p3, p4, p5, p6, p7] =>
    if code = 0x08#8 then
      some (.defineRegion a (word40 b4 b3 b2 b1 b0) (word32 z3 z2 z1 z0) m ⟨[p0, p1, p2, p3, p4, p5, p6, p7], rfl⟩)
    else none
  | _ => none

/-- The request part of a management command (Table 12-6); none for an event that is no frame. -/
def encodeFrame (i : Instr) : Option (List Byte) :=
  match i with
  | .getItem a => some [0x01#8, a]
  | .setItem a v => some ([0x02#8, a] ++ bigEndian 4 v.toNat)
  | .readStatus => some [0x03#8]
  | .readCounters => some [0x04#8]
  | .clearCounters => some [0x05#8]
  | .readFlags => some [0x06#8]
  | .readSlots => some [0x07#8]
  | .defineRegion a b z m p => some ([0x08#8, a] ++ bigEndian 5 b.toNat ++ bigEndian 4 z.toNat ++ [m] ++ p.cells)
  | .retireRegion a => some [0x09#8, a]
  | .readRegion a => some [0x0A#8, a]
  | .setRule a b l q sc su no =>
    some ([0x0B#8, a] ++ bigEndian 5 b.toNat ++ bigEndian 5 l.toNat ++ [q, sc, su, no])
  | .clearRule a => some [0x0C#8, a]
  | .readRule a => some [0x0D#8, a]
  | .goOnline => some [0x10#8]
  | .quiesce => some [0x11#8]
  | .resume => some [0x12#8]
  | .flush => some [0x13#8]
  | .resetBridge => some [0x14#8]
  | .reclaimSlots => some [0x15#8]
  | .takeNotice => some [0x16#8]
  | .unknownCommand c => some [c]
  | .requestArrival _ => none
  | .take _ => none
  | .grant _ => none
  | .memoryLinkAccept => none
  | .memoryResponse _ _ => none
  | .slotDeadline _ => none
  | .gatherDeadline _ => none
  | .pacingEnd => none
  | .suppressionDiscard => none
  | .readResponse => none
  | .syncResponse => none
  | .flushComplete => none
  | .noticeRemoved => none
  | .brokenFrame _ => none
  | .powerOnReset => none
  | .resetReleased => none

end Sys2Proof
end

