-- ==== Sys2Proof/Config.lean ====
section
/-! DEFINITION. What the part fixes: capacities, default values of the items, the part ident. The spec leaves
no result of a command undefined, so there is no free value here. -/

namespace Sys2Proof.Config

/-- Bytes in a line (00_scope.md Table 5-1). -/
def lineBytes : Nat := 64

/-- The number of byte addresses of the memory space (00_scope.md section 6, R139). -/
def spaceBytes : Nat := 2 ^ 40

/-- A region's granularity, 64 KiB (R93). -/
def regionUnit : Nat := 65536

/-- The Intake Queue holds up to sixteen requests (R135). -/
def intakeCapacity : Nat := 16

/-- An entry's held list holds at most four indices (R10). -/
def heldCapacity : Nat := 4

/-- The Ahead List holds at most 48 records (R99). -/
def aheadCapacity : Nat := 48

/-- The Notice Queue holds up to 32 records (R160). -/
def noticeCapacity : Nat := 32

/-- GATHER_TIMEOUT after a power-on reset, in µs (Table 10-3). -/
def gatherTimeoutDefault : BitVec 32 := 16#32

/-- MEMORY_TIMEOUT after a power-on reset, in µs (Table 10-3). -/
def memoryTimeoutDefault : BitVec 32 := 2000#32

/-- SWEEP_INTERVAL after a power-on reset, in µs (Table 10-3). -/
def sweepIntervalDefault : BitVec 32 := 4#32

/-- SWEEP_URGENT_LEVEL after a power-on reset (Table 10-3). -/
def sweepUrgentLevelDefault : BitVec 32 := 40#32

/-- PART_IDENT in the five bytes of its answer: vendor 0x03A7, part 0x0416, revision 2 (R178). -/
def partIdent : BitVec 40 := 0x03A7041602#40

/-- The filler value that data out carries outside an answer part (R178). -/
def filler : Byte := 0xFF#8

end Sys2Proof.Config
end

