-- ==== Sys2Proof/Machine/State.lean ====
section
/-! DEFINITION. The state of the TL-416, block by block, and the state after a power-on reset. A record that a state of the spec
leaves without fields is absent here too, so that it holds nothing. Lines are line addresses, multiples of 64. -/

namespace Sys2Proof.Machine

/-- The block stops with a fault nowhere: every failure is reported by a status, a flag, a notice or a counter. -/
inductive Fault where
  deriving DecidableEq, Repr

/-- Refusals of the model. -/
inductive Refusal where
  /-- Raised by an arm of `exec` whose command has no meaning yet; safe. No arm raises it now. -/
  | notModelled (mnemonic : String)
  deriving DecidableEq, Repr

/-! ## Requester link and Requester Port (Chapter 7) -/

/-- The nine response statuses (R133, Table 7-2). -/
inductive ResponseStatus where
  | ok
  | dataError
  | timeout
  | writeFailed
  | rangeError
  | protocolError
  | busy
  | offline
  | aborted
  deriving DecidableEq, Repr

/-- A response on the requester link (R133); `data` is empty when it carries none. -/
structure Response where
  requester : Requester
  tag : Tag
  status : ResponseStatus
  data : List Byte
  deriving DecidableEq, Repr

/-- The worst status of a WRT record, in the order OK < TIMEOUT < WRITE_FAILED (R144). -/
inductive HeldStatus where
  | ok
  | timeout
  | writeFailed
  deriving DecidableEq, Repr

/-- A WAITING record of the Write Response Table (Table 7-3). -/
structure WrtRecord where
  requester : Requester
  tag : Tag
  outstanding : Nat
  worst : HeldStatus
  deriving DecidableEq, Repr

/-- The Requester Port. `link` holds requests offered on the link while the Intake Queue was full (R135). -/
structure Rqp where
  intake : List Request
  link : List Request
  tags : List (Requester × Tag)
  wrt : Table (Option WrtRecord) 16
  deriving DecidableEq, Repr

/-! ## Line Assembly Table (Chapter 1) -/

/-- States of an entry that is not FREE (Table 1-2). -/
inductive EntryState where
  | gathering
  | closed
  | fetching
  | writing
  deriving DecidableEq, Repr

/-- The data byte of an entry at one offset (R1): without meaning, a requester's byte at an offset of the byte set,
or a byte placed by the fill. -/
inductive ByteCell where
  | unset
  | written (b : Byte)
  | filled (b : Byte)
  deriving DecidableEq, Repr

/-- The bytes of an entry. The byte set is the set of offsets whose cell is `written`. -/
abbrev LineCells := Table ByteCell 64

/-- Fill (R29). -/
inductive Fill where
  | none
  | fetch
  | pattern
  deriving DecidableEq, Repr

/-- The barrier of an entry made under a release rule (R57). -/
structure Barrier where
  predecessors : FinSet 32
  failed : Bool
  suppress : Bool
  rule : Fin 8
  deriving DecidableEq, Repr

/-- An entry that is not FREE (Table 1-1). -/
structure Entry where
  state : EntryState
  line : Nat
  cells : LineCells
  contributors : FinSet 16
  held : List (Fin 16)
  closeNumber : Option Nat
  barrier : Option Barrier
  deadline : Option Nat
  lastMerge : Nat
  fill : Option Fill
  deriving DecidableEq, Repr

/-- The Line Assembly Table: a FREE entry is `none`. -/
structure Lat where
  entries : Table (Option Entry) 32
  issueQueue : List (Fin 32)
  evictMark : Option (Fin 32)
  deriving DecidableEq, Repr

/-! ## Read Path (Chapter 4) -/

/-- The status of a read piece, in the order OK < DATA_ERROR < TIMEOUT (R84). -/
inductive ReadStatus where
  | ok
  | dataError
  | timeout
  deriving DecidableEq, Repr

/-- A part of a request that lies in one line: `count` bytes from offset `first`, standing at position `pos` of the
request's bytes (R140, Table 4-2). -/
structure Span where
  line : Nat
  first : Nat
  count : Nat
  pos : Nat
  deriving DecidableEq, Repr

/-- Where a read piece stands (R72). -/
inductive PieceState where
  | waiting
  | reading
  | done (status : ReadStatus)
  deriving DecidableEq, Repr

/-- A piece record (Table 4-2). -/
structure ReadPiece where
  span : Span
  state : PieceState
  deriving DecidableEq, Repr

/-- An ACTIVE read context (Table 4-1). A position of the buffer that no piece has written holds no byte. -/
structure Context where
  requester : Requester
  tag : Tag
  address : BitVec 40
  length : Nat
  age : Nat
  pieces : List ReadPiece
  buffer : List (Option Byte)
  worst : ReadStatus
  deriving DecidableEq, Repr

/-- The Read Path: a FREE context is `none`. `ready` lists the contexts that await READ_RESPONSE, in the order in which their
last pieces were resolved (R77). -/
structure Rdp where
  contexts : Table (Option Context) 16
  ready : List (Fin 16)
  deriving DecidableEq, Repr

/-! ## Ordering Unit (Chapter 3) -/

/-- Scope of a release rule. -/
inductive Scope where
  | own
  | all
  deriving DecidableEq, Repr

/-- A present release rule (Table 3-1); `requester` is `none` for ANY. -/
structure ReleaseRule where
  base : Nat
  limit : Nat
  requester : Option Requester
  scope : Scope
  suppress : Bool
  note : Bool
  deriving DecidableEq, Repr

/-- A BUSY Sync Tracker record (Table 3-2). -/
structure SyncRecord where
  tag : Tag
  waitSet : FinSet 32
  deriving DecidableEq, Repr

/-- The Ordering Unit: an absent rule and an IDLE record are `none`. `syncReady` lists the requesters whose SYNC awaits its
response, `discards` the barrier entries that await their discard (R60, R65). -/
structure OrderUnit where
  rules : Table (Option ReleaseRule) 8
  sync : Table (Option SyncRecord) 16
  flags : FinSet 16
  syncReady : List Requester
  discards : List (Fin 32)
  deriving DecidableEq, Repr

/-! ## Region and Sweep Unit (Chapter 5) -/

/-- What every present region record holds (Table 5-1). -/
structure RegionInfo where
  base : Nat
  size : Nat
  pattern : Table Byte 8
  faults : BitVec 16
  deriving DecidableEq, Repr

/-- A region record (R90). -/
inductive Region where
  | absent
  | sweeping (info : RegionInfo) (watermark : Nat)
  | ready (info : RegionInfo)
  deriving DecidableEq, Repr

/-- State of an Ahead List record (Table 5-3). -/
inductive AheadState where
  | inFlight
  | written
  deriving DecidableEq, Repr

/-- An Ahead List record (Table 5-3). -/
structure AheadRecord where
  line : Nat
  region : Fin 8
  state : AheadState
  deriving DecidableEq, Repr

/-- The sweep engine (Table 5-4). -/
inductive Engine where
  | idle
  | pacing (until_ : Nat)
  | ready (region : Fin 8) (line : Nat)
  | blocked (region : Fin 8) (line : Nat)
  | writing (region : Fin 8) (line : Nat)
  deriving DecidableEq, Repr

/-- The Region and Sweep Unit. -/
structure Rsw where
  regions : Table Region 8
  ahead : List AheadRecord
  engine : Engine
  deriving DecidableEq, Repr

/-! ## Memory Port (Chapter 6) -/

/-- Purpose of a slot's request (Table 6-3). -/
inductive Purpose where
  | entryFetch
  | entryWrite
  | read
  | sweep
  deriving DecidableEq, Repr

/-- Owner of a BUSY slot, with its purpose: the two go together (R116). `piece` counts from 0 in the context's list. -/
inductive Owner where
  | fetchOf (entry : Fin 32)
  | writeOf (entry : Fin 32)
  | readOf (context : Fin 16) (piece : Nat)
  | sweepEngine
  deriving DecidableEq, Repr

/-- A memory slot (R116, Table 6-4). -/
inductive Slot where
  | free
  | busy (owner : Owner) (line : Nat) (sent : Bool) (deadline : Nat)
  | orphaned (purpose : Purpose) (line : Nat) (sent : Bool)
  deriving DecidableEq, Repr

/-- A request prepared for the memory link (Table 6-1). -/
inductive MemoryRequest where
  | lineRead (slot : Fin 16) (line : Nat)
  | lineWrite (slot : Fin 16) (line : Nat) (data : Table Byte 64)
  deriving DecidableEq, Repr

/-- The classes of the slot arbiter (R118). -/
inductive ArbiterClass where
  | write
  | read
  | sweep
  deriving DecidableEq, Repr

/-- The Memory Port. -/
structure Mp where
  slots : Table Slot 16
  sendOrder : List MemoryRequest
  turn : ArbiterClass
  stallMark : Bool
  deriving DecidableEq, Repr

/-! ## Mode Control (Chapter 8) -/

/-- The bridge modes (R148). -/
inductive Mode where
  | offline
  | online
  | draining
  | quiesced
  deriving DecidableEq, Repr

/-- The long commands (R151). -/
inductive LongCommand where
  | quiesce
  | flush
  deriving DecidableEq, Repr

/-- Outcomes of long commands (Table 8-3). -/
inductive LongOutcome where
  | done
  | abandoned
  | clean
  | losses
  | aborted
  deriving DecidableEq, Repr

/-- The running long command (R151). The FLUSH wait set and its outcome so far exist only while FLUSH runs (R67);
`losses` is true when the outcome has become LOSSES. -/
inductive Running where
  | none
  | quiesce
  | flush (waitSet : FinSet 32) (losses : Bool)
  deriving DecidableEq, Repr

/-- Mode Control. -/
structure Mc where
  mode : Mode
  running : Running
  last : Option (LongCommand × LongOutcome)
  deriving DecidableEq, Repr

/-! ## Notice Unit (Chapter 9) -/

/-- Causes of a WRITE_LOST; SUPPRESSED carries the rule index of the entry's barrier (R46). -/
inductive LostCause where
  | fetchFault
  | fetchTimeout
  | writeFault
  | suppressed (rule : Fin 8)
  deriving DecidableEq, Repr

/-- Causes of READ_FAULT and SWEEP_FAULT. -/
inductive FaultCause where
  | dataFault
  | timeout
  deriving DecidableEq, Repr

/-- Causes of REQUEST_REFUSED (R145). -/
inductive RefusalCause where
  | badKind
  | badLength
  | duplicateTag
  | beyondSpace
  | noRegion
  deriving DecidableEq, Repr

/-- The eleven kinds of notice with their fields (Table 9-1). -/
inductive NoticeBody where
  | writeLost (line : Nat) (contributors : FinSet 16) (cause : LostCause)
  | writeUnconfirmed (line : Nat) (contributors : FinSet 16)
  | readFault (line : Nat) (requester : Requester) (tag : Tag) (cause : FaultCause)
  | lateResponse (slot : Fin 16) (line : Nat) (purpose : Purpose)
  | strayResponse (slot : Fin 16)
  | memoryStalled
  | sweepFault (region : Fin 8) (line : Nat) (cause : FaultCause)
  | sweepDone (region : Fin 8) (faults : BitVec 16)
  | releaseNote (rule : Fin 8) (requester : Requester) (address : BitVec 40) (data : List Byte)
  | requestRefused (requester : Requester) (tag : Tag) (status : ResponseStatus) (cause : RefusalCause)
      (address : Option (BitVec 40))
  | commandDone (command : LongCommand) (outcome : LongOutcome)
  deriving DecidableEq, Repr

/-- A notice record: its sequence number, kind and fields (R159). -/
structure Notice where
  seq : BitVec 16
  body : NoticeBody
  deriving DecidableEq, Repr

/-- The nine statistics counters (Table 9-2). -/
structure Counters where
  merges : BitVec 32
  wholeWrites : BitVec 32
  fetchWrites : BitVec 32
  patternWrites : BitVec 32
  forwardedReads : BitVec 32
  patternReads : BitVec 32
  correctedReads : BitVec 32
  lateResponses : BitVec 32
  noticesLost : BitVec 32
  deriving DecidableEq, Repr

/-- The Notice Unit. Bit `n` of `enables` enables the notice kind with code `n`; `line` is true while the notice line is
asserted (R162). -/
structure Nu where
  queue : List Notice
  seq : BitVec 16
  enables : BitVec 11
  line : Bool
  counters : Counters
  deriving DecidableEq, Repr

/-! ## Management Link Interface (Chapter 10) -/

/-- The items of the item store that are numbers (Table 10-3). -/
structure Items where
  gatherTimeout : BitVec 32
  memoryTimeout : BitVec 32
  sweepInterval : BitVec 32
  sweepUrgentLevel : BitVec 32
  deriving DecidableEq, Repr

/-- The frame receiver between acts (R166). -/
inductive Frame where
  /-- It waits for a fresh chip-select assertion. -/
  | waiting
  /-- It is past the request part of a frame: `out` is what data out carries from there on, the turnaround byte's filler and the
  answer part; `removes` is true when the end of the whole frame removes a notice record (R161). -/
  | answering (out : List Byte) (removes : Bool)
  /-- It ignores the frame that overlaps the power-on reset, and that frame's request part is not whole yet (R175). -/
  | ignoring
  deriving DecidableEq, Repr

/-- The Management Link Interface. -/
structure Mli where
  items : Items
  brokenFrame : Bool
  frame : Frame
  deriving DecidableEq, Repr

/-- Answer statuses (Table 10-1). -/
inductive AnswerStatus where
  | done
  | started
  | refusedMode
  | refusedArgument
  | busy
  | empty
  | unknownCommand
  deriving DecidableEq, Repr

/-- The status record of READ_STATUS (R172). -/
structure StatusRecord where
  mode : Mode
  running : Option LongCommand
  last : Option (LongCommand × LongOutcome)
  noticesHeld : Nat
  entriesInUse : Nat
  slotsBusy : Nat
  slotsOrphaned : Nat
  aheadCount : Nat
  brokenFrame : Bool
  partIdent : BitVec 40
  deriving DecidableEq, Repr

/-- What READ_SLOTS shows of a slot (R129). -/
inductive SlotView where
  | free
  | busy (purpose : Purpose) (line : Nat)
  | orphaned (purpose : Purpose) (line : Nat)
  deriving DecidableEq, Repr

/-- The fields that follow the status of an answer (Table 10-2, Table 12-6). -/
inductive AnswerFields where
  | nothing
  | item (value : BitVec 40)
  | status (record : StatusRecord)
  | counters (values : Counters)
  | flags (requesters : FinSet 16)
  | slots (views : Table SlotView 16)
  | region (record : Region) (aheadCount : Nat)
  | rule (record : Option ReleaseRule)
  | reclaimed (count : Nat)
  | notice (record : Notice)
  deriving DecidableEq, Repr

/-- An answer to a management command. -/
structure Answer where
  status : AnswerStatus
  fields : AnswerFields
  deriving DecidableEq, Repr

/-! ## The machine -/

/-- What the bridge has sent, oldest first: responses on the requester link, requests accepted by the memory link, answers
on the management link. The model's own record (log entry 7). -/
structure Outputs where
  responses : List Response
  memory : List MemoryRequest
  answers : List Answer
  deriving DecidableEq, Repr

/-- The state of the bridge. -/
structure State where
  rqp : Rqp
  lat : Lat
  starvation : Bool
  rdp : Rdp
  ord : OrderUnit
  rsw : Rsw
  mp : Mp
  mc : Mc
  nu : Nu
  mli : Mli
  /-- The power-on reset is held (R158). -/
  held : Bool
  /-- The microsecond timebase. -/
  now : Nat
  out : Outputs
  /-- The commands that are waiting, first in, first out. -/
  pending : List Instr
  deriving DecidableEq, Repr

/-! ## The values after a power-on reset -/

/-- R147. -/
def Rqp.reset : Rqp := { intake := [], link := [], tags := [], wrt := Table.fill 16 none }

/-- R23. -/
def Lat.reset : Lat := { entries := Table.fill 32 none, issueQueue := [], evictMark := none }

/-- R89. -/
def Rdp.reset : Rdp := { contexts := Table.fill 16 none, ready := [] }

/-- R49, R62, R66. -/
def OrderUnit.reset : OrderUnit :=
  { rules := Table.fill 8 none, sync := Table.fill 16 none, flags := FinSet.empty 16, syncReady := [], discards := [] }

/-- R96, R99, R112. -/
def Rsw.reset : Rsw := { regions := Table.fill 8 .absent, ahead := [], engine := .idle }

/-- R131. -/
def Mp.reset : Mp := { slots := Table.fill 16 .free, sendOrder := [], turn := .write, stallMark := false }

/-- R148, R151. -/
def Mc.reset : Mc := { mode := .offline, running := .none, last := none }

/-- R165. -/
def Counters.zero : Counters :=
  { merges := 0#32, wholeWrites := 0#32, fetchWrites := 0#32, patternWrites := 0#32, forwardedReads := 0#32,
    patternReads := 0#32, correctedReads := 0#32, lateResponses := 0#32, noticesLost := 0#32 }

/-- R159, R162, R163. -/
def Nu.reset : Nu := { queue := [], seq := 0#16, enables := 0x7FF#11, line := false, counters := Counters.zero }

/-- R170, R175. -/
def Mli.reset : Mli :=
  { items :=
      { gatherTimeout := Config.gatherTimeoutDefault, memoryTimeout := Config.memoryTimeoutDefault,
        sweepInterval := Config.sweepIntervalDefault, sweepUrgentLevel := Config.sweepUrgentLevelDefault },
    brokenFrame := false, frame := .waiting }

/-- The machine right after a power-on reset has been released (R158). The timebase, the link and the output records are
the model's choice (log entries 5, 7 and 8). -/
def State.reset : State :=
  { rqp := Rqp.reset, lat := Lat.reset, starvation := false, rdp := Rdp.reset, ord := OrderUnit.reset, rsw := Rsw.reset,
    mp := Mp.reset, mc := Mc.reset, nu := Nu.reset, mli := Mli.reset, held := false, now := 0,
    out := { responses := [], memory := [], answers := [] }, pending := [] }

end Sys2Proof.Machine
end

