-- ==== Sys2Proof/Machine/Flags.lean ====
section
/-! DEFINITION. Status joins, the failure flags, the statistics counters and the notice line. -/

namespace Sys2Proof.Machine

/-! ## Status joins -/

/-- Severity of a held status: OK < TIMEOUT < WRITE_FAILED (R43). -/
def heldSeverity : HeldStatus → Nat
  | .ok => 0
  | .timeout => 1
  | .writeFailed => 2

/-- The more severe of two held statuses (R43). -/
def worseHeld (a b : HeldStatus) : HeldStatus := if heldSeverity a < heldSeverity b then b else a

/-- Severity of a read status: OK < DATA_ERROR < TIMEOUT (R84). -/
def readSeverity : ReadStatus → Nat
  | .ok => 0
  | .dataError => 1
  | .timeout => 2

/-- The more severe of two read statuses (R84). -/
def worseRead (a b : ReadStatus) : ReadStatus := if readSeverity a < readSeverity b then b else a

/-- The response status of a held status. -/
def heldResponse : HeldStatus → ResponseStatus
  | .ok => .ok
  | .timeout => .timeout
  | .writeFailed => .writeFailed

/-- The response status of a read status. -/
def readResponseStatus : ReadStatus → ResponseStatus
  | .ok => .ok
  | .dataError => .dataError
  | .timeout => .timeout

/-! ## Failure flags (R44, R66) -/

/-- Sets the failure flag of every member of `who`. -/
def setFailureFlags (who : FinSet 16) (s : State) : State :=
  { s with ord := { s.ord with flags := s.ord.flags.union who } }

/-- Clears the failure flag of one requester. -/
def clearFailureFlag (r : Requester) (s : State) : State :=
  { s with ord := { s.ord with flags := s.ord.flags.erase r } }

/-! ## Counters (R164) -/

/-- The names of the counters. -/
inductive Counter where
  | merges
  | wholeWrites
  | fetchWrites
  | patternWrites
  | forwardedReads
  | patternReads
  | correctedReads
  | lateResponses
  | noticesLost
  deriving DecidableEq, Repr

/-- One more count; a saturated counter keeps its value (R164). -/
def countUp (c : BitVec 32) : BitVec 32 := if c = 0xFFFFFFFF#32 then c else c + 1#32

/-- The counters with one more count of `which`. -/
def bumpCounter (which : Counter) (c : Counters) : Counters :=
  match which with
  | .merges => { c with merges := countUp c.merges }
  | .wholeWrites => { c with wholeWrites := countUp c.wholeWrites }
  | .fetchWrites => { c with fetchWrites := countUp c.fetchWrites }
  | .patternWrites => { c with patternWrites := countUp c.patternWrites }
  | .forwardedReads => { c with forwardedReads := countUp c.forwardedReads }
  | .patternReads => { c with patternReads := countUp c.patternReads }
  | .correctedReads => { c with correctedReads := countUp c.correctedReads }
  | .lateResponses => { c with lateResponses := countUp c.lateResponses }
  | .noticesLost => { c with noticesLost := countUp c.noticesLost }

/-- Counts one. -/
def countOne (which : Counter) (s : State) : State :=
  { s with nu := { s.nu with counters := bumpCounter which s.nu.counters } }

/-! ## Notice kinds and the notice line (R162) -/

/-- The kind code of a notice (Table 12-7). -/
def noticeKind : NoticeBody → Nat
  | .writeLost _ _ _ => 0
  | .writeUnconfirmed _ _ => 1
  | .readFault _ _ _ _ => 2
  | .lateResponse _ _ _ => 3
  | .strayResponse _ => 4
  | .memoryStalled => 5
  | .sweepFault _ _ _ => 6
  | .sweepDone _ _ => 7
  | .releaseNote _ _ _ _ => 8
  | .requestRefused _ _ _ _ _ => 9
  | .commandDone _ _ => 10

/-- Whether the enables hold the kind of a record (R162). -/
def noticeEnabled (enables : BitVec 11) (n : Notice) : Bool := enables.getLsbD (noticeKind n.body)

/-- Judges the notice line: asserted exactly while the queue holds a record of an enabled kind (R162). -/
def judgeLine (u : Nu) : Nu := { u with line := u.queue.any (noticeEnabled u.enables) }

/-- Posts a notice: it takes the sequence number, and joins the tail or is dropped and counted (R159, R160). -/
def postToNu (body : NoticeBody) (u : Nu) : Nu :=
  if u.queue.length < Config.noticeCapacity then
    judgeLine { u with queue := u.queue ++ [{ seq := u.seq, body := body }], seq := u.seq + 1#16 }
  else
    { u with seq := u.seq + 1#16, counters := bumpCounter .noticesLost u.counters }

/-- Posts a notice. -/
def post (body : NoticeBody) (s : State) : State := { s with nu := postToNu body s.nu }

end Sys2Proof.Machine
end

