-- ==== Sys2Proof/Machine/Formats.lean ====
section
/-! DEFINITION. The layouts of everything that leaves the part (Chapter 12): codes, link records, answers and notice records. -/

namespace Sys2Proof.Machine

/-! ## Codes -/

/-- Table 12-1. -/
def requestKindOf (code : BitVec 2) : RequestKind :=
  if code = 0#2 then .read else if code = 1#2 then .write else if code = 2#2 then .sync else .unknown

/-- Table 12-2. -/
def responseCode : ResponseStatus → Nat
  | .ok => 0
  | .dataError => 1
  | .timeout => 2
  | .writeFailed => 3
  | .rangeError => 4
  | .protocolError => 5
  | .busy => 6
  | .offline => 7
  | .aborted => 8

/-- Table 12-5. -/
def answerCode : AnswerStatus → Nat
  | .done => 0
  | .started => 1
  | .refusedMode => 2
  | .refusedArgument => 3
  | .busy => 4
  | .empty => 5
  | .unknownCommand => 6

/-- Table 12-5. -/
def modeCode : Mode → Nat
  | .offline => 0
  | .online => 1
  | .draining => 2
  | .quiesced => 3

/-- Table 12-5. -/
def longCommandCode : LongCommand → Nat
  | .quiesce => 1
  | .flush => 2

/-- Table 12-5. -/
def outcomeCode : LongOutcome → Nat
  | .done => 1
  | .abandoned => 2
  | .clean => 3
  | .losses => 4
  | .aborted => 5

/-- Table 12-5. -/
def purposeCode : Purpose → Nat
  | .entryFetch => 1
  | .entryWrite => 2
  | .read => 3
  | .sweep => 4

/-- Table 12-5. -/
def scopeCode : Scope → Nat
  | .own => 0
  | .all => 1

/-- Table 12-7. -/
def faultCauseCode : FaultCause → Nat
  | .dataFault => 0
  | .timeout => 1

/-- Table 12-7. -/
def lostCauseCode : LostCause → Nat
  | .fetchFault => 0
  | .fetchTimeout => 1
  | .writeFault => 2
  | .suppressed _ => 3

/-- The rule byte of a WRITE_LOST: the barrier's rule index for SUPPRESSED, zero otherwise (Table 12-7). -/
def lostCauseRule : LostCause → Nat
  | .fetchFault => 0
  | .fetchTimeout => 0
  | .writeFault => 0
  | .suppressed rule => rule.val

/-- Table 12-7. -/
def refusalCauseCode : RefusalCause → Nat
  | .badKind => 0
  | .badLength => 1
  | .duplicateTag => 2
  | .beyondSpace => 3
  | .noRegion => 4

/-! ## The memory link (Table 12-3) -/

/-- The kind bit: 0 LINE_READ, 1 LINE_WRITE. -/
def memoryRequestKind : MemoryRequest → Nat
  | .lineRead _ _ => 0
  | .lineWrite _ _ _ => 1

/-- The slot that carries a request. -/
def memoryRequestSlot : MemoryRequest → Fin 16
  | .lineRead slot _ => slot
  | .lineWrite slot _ _ => slot

/-- The line of a request. -/
def memoryRequestLine : MemoryRequest → Nat
  | .lineRead _ line => line
  | .lineWrite _ line _ => line

/-- The line field: line address bits 39 to 6. -/
def memoryRequestLineField (m : MemoryRequest) : BitVec 34 := BitVec.ofNat 34 (memoryRequestLine m / Config.lineBytes)

/-! ## Notice records (R179, Table 12-7) -/

/-- One byte. -/
def oneByte (v : Nat) : List Byte := bigEndian 1 v

/-- A line or address in five bytes. -/
def addressBytes (v : Nat) : List Byte := bigEndian 5 v

/-- Bytes followed by zero bytes up to `n` in all. -/
def padTo (n : Nat) (bytes : List Byte) : List Byte := (bytes ++ List.replicate n 0#8).take n

/-- The fields of a notice body, without the zero bytes behind them. -/
def noticeFields : NoticeBody → List Byte
  | .writeLost line who cause =>
    addressBytes line ++ bigEndian 2 who.toNat ++ oneByte (lostCauseCode cause) ++ oneByte (lostCauseRule cause)
  | .writeUnconfirmed line who => addressBytes line ++ bigEndian 2 who.toNat
  | .readFault line r tag cause =>
    addressBytes line ++ oneByte r.val ++ oneByte tag.val ++ oneByte (faultCauseCode cause)
  | .lateResponse slot line purpose => oneByte slot.val ++ addressBytes line ++ oneByte (purposeCode purpose)
  | .strayResponse slot => oneByte slot.val
  | .memoryStalled => []
  | .sweepFault region line cause => oneByte region.val ++ addressBytes line ++ oneByte (faultCauseCode cause)
  | .sweepDone region faults => oneByte region.val ++ bigEndian 2 faults.toNat
  | .releaseNote rule r address data =>
    oneByte rule.val ++ oneByte r.val ++ addressBytes address.toNat ++ oneByte data.length ++ data
  | .requestRefused r tag status cause address =>
    oneByte r.val ++ oneByte tag.val ++ oneByte (responseCode status) ++ oneByte (refusalCauseCode cause) ++
      (match address with
       | some a => oneByte 1 ++ addressBytes a.toNat
       | none => oneByte 0 ++ addressBytes 0)
  | .commandDone command outcome => oneByte (longCommandCode command) ++ oneByte (outcomeCode outcome)

/-- The 19 bytes of a notice record: sequence number, kind code, body of 16 bytes (R179). -/
def noticeBytes (n : Notice) : List Byte :=
  bigEndian 2 n.seq.toNat ++ oneByte (noticeKind n.body) ++ padTo 16 (noticeFields n.body)

/-! ## Answers (R178, Table 12-6) -/

/-- The status record. -/
def statusBytes (r : StatusRecord) : List Byte :=
  oneByte (modeCode r.mode) ++
  (match r.running with
   | some c => oneByte (longCommandCode c)
   | none => oneByte 0) ++
  (match r.last with
   | some (c, o) => oneByte (longCommandCode c) ++ oneByte (outcomeCode o)
   | none => oneByte 0 ++ oneByte 0) ++
  oneByte r.noticesHeld ++ oneByte r.entriesInUse ++ oneByte r.slotsBusy ++ oneByte r.slotsOrphaned ++
  oneByte r.aheadCount ++ oneByte r.brokenFrame.toNat ++ bigEndian 5 r.partIdent.toNat

/-- The nine counters in Table 9-2 order. -/
def counterBytes (c : Counters) : List Byte :=
  bigEndian 4 c.merges.toNat ++ bigEndian 4 c.wholeWrites.toNat ++ bigEndian 4 c.fetchWrites.toNat ++
  bigEndian 4 c.patternWrites.toNat ++ bigEndian 4 c.forwardedReads.toNat ++ bigEndian 4 c.patternReads.toNat ++
  bigEndian 4 c.correctedReads.toNat ++ bigEndian 4 c.lateResponses.toNat ++ bigEndian 4 c.noticesLost.toNat

/-- State and purpose in the two nibbles of one byte, and the line; a FREE slot's line is sent as zero bytes. -/
def slotViewBytes : SlotView → List Byte
  | .free => oneByte 0 ++ addressBytes 0
  | .busy purpose line => oneByte (16 * 1 + purposeCode purpose) ++ addressBytes line
  | .orphaned purpose line => oneByte (16 * 2 + purposeCode purpose) ++ addressBytes line

/-- A region record with its Ahead List count; fields it lacks are zero bytes. -/
def regionBytes (r : Region) (aheadCount : Nat) : List Byte :=
  match r with
  | .absent => List.replicate 26 0#8
  | .sweeping info watermark =>
    oneByte 1 ++ addressBytes info.base ++ bigEndian 4 (info.size / Config.regionUnit) ++ info.pattern.cells ++
      addressBytes watermark ++ bigEndian 2 info.faults.toNat ++ oneByte aheadCount
  | .ready info =>
    oneByte 2 ++ addressBytes info.base ++ bigEndian 4 (info.size / Config.regionUnit) ++ info.pattern.cells ++
      addressBytes 0 ++ bigEndian 2 info.faults.toNat ++ oneByte aheadCount

/-- A release rule; an absent rule is all zero bytes. -/
def ruleBytes (r : Option ReleaseRule) : List Byte :=
  match r with
  | none => List.replicate 15 0#8
  | some rule =>
    oneByte 1 ++ bigEndian 5 (rule.base / Config.lineBytes) ++ bigEndian 5 (rule.limit / Config.lineBytes) ++
      (match rule.requester with
       | some who => oneByte who.val
       | none => [0xFF#8]) ++
      oneByte (scopeCode rule.scope) ++ oneByte rule.suppress.toNat ++ oneByte rule.note.toNat

/-- The fields that follow the status byte. -/
def fieldBytes : AnswerFields → List Byte
  | .nothing => []
  | .item value => bigEndian 5 value.toNat
  | .status record => statusBytes record
  | .counters values => counterBytes values
  | .flags who => bigEndian 2 who.toNat
  | .slots views => views.cells.flatMap slotViewBytes
  | .region record aheadCount => regionBytes record aheadCount
  | .rule record => ruleBytes record
  | .reclaimed n => oneByte n
  | .notice record => noticeBytes record

/-- The answer part: one status byte and the fields (R178). -/
def answerBytes (a : Answer) : List Byte := oneByte (answerCode a.status) ++ fieldBytes a.fields

/-- What data out carries from the end of the request part on: the filler in the turnaround byte, then the answer part (R166). -/
def answerOut (a : Answer) : List Byte := Config.filler :: answerBytes a

/-- What the frame receiver has to shift out once a request part is whole; a frame that it ignores has nothing but the filler
(R175). -/
def frameOut : Frame → List Byte
  | .waiting => []
  | .answering out _ => out
  | .ignoring => []

/-- The byte on data out while byte `k` of a frame is clocked, `k` counted from chip-select, in a frame with a request part of
`requestBytes`: the filler, but for the answer part, also while the reset is held and for every byte after the answer (R166,
R175, R178). -/
def dataOut (requestBytes k : Nat) (s : State) : Byte :=
  if s.held ∨ k < requestBytes then Config.filler else (frameOut s.mli.frame).getD (k - requestBytes) Config.filler

end Sys2Proof.Machine
end

