-- ==== Sys2Proof/Machine/Operands.lean ====
section
/-! DEFINITION. The operand forms: how a request divides into pieces, and how the raw argument fields of management frames and
memory responses are read. -/

namespace Sys2Proof.Machine

/-! ## Lines and pieces (R140) -/

/-- The line address of the line in which a byte address lies. -/
def lineOf (address : Nat) : Nat := address - address % Config.lineBytes

/-- The first byte address of a request. -/
def requestAddress (q : Request) : Nat := q.address.toNat

/-- The pieces of a READ or WRITE, in ascending address order: one when its bytes lie in one line, else the part up to the
end of the first line and the rest in the next (R140). -/
def requestSpans (q : Request) : List Span :=
  let address := requestAddress q
  let offset := address % Config.lineBytes
  if offset + q.length.val ≤ Config.lineBytes then
    [{ line := lineOf address, first := offset, count := q.length.val, pos := 0 }]
  else
    [{ line := lineOf address, first := offset, count := Config.lineBytes - offset, pos := 0 },
     { line := lineOf address + Config.lineBytes, first := 0, count := q.length.val - (Config.lineBytes - offset),
       pos := Config.lineBytes - offset }]

/-- Whether an offset of the line lies in the piece. -/
def spanHolds (p : Span) (k : Fin 64) : Bool := decide (p.first ≤ k.val ∧ k.val < p.first + p.count)

/-- The offsets of the piece, in ascending order. -/
def spanOffsets (p : Span) : List (Fin 64) := (List.finRange 64).filter (spanHolds p)

/-- The data byte of a WRITE that belongs at an offset of the piece. -/
def spanByte (p : Span) (data : List Byte) (k : Fin 64) : Byte := data.getD (p.pos + (k.val - p.first)) 0#8

/-- The entry bytes after a write piece: its bytes at its offsets, the rest as they were (R6, R7). -/
def writeSpan (cells : LineCells) (p : Span) (data : List Byte) : LineCells :=
  Table.ofFn (fun k => if spanHolds p k then .written (spanByte p data k) else cells.get k)

/-- The cells of an entry that holds no byte yet. -/
def blankCells : LineCells := Table.fill 64 .unset

/-! ## Entry bytes -/

/-- Whether a cell lies in the byte set. -/
def ByteCell.isWritten : ByteCell → Bool
  | .written _ => true
  | .filled _ => false
  | .unset => false

/-- The requester's byte of a cell in the byte set. -/
def ByteCell.writtenByte : ByteCell → Option Byte
  | .written b => some b
  | .filled _ => none
  | .unset => none

/-- The byte a cell holds in a filled line. -/
def ByteCell.lineByte : ByteCell → Byte
  | .written b => b
  | .filled b => b
  | .unset => 0#8

/-- Whether the byte set holds all 64 offsets (R13). -/
def cellsFull (cells : LineCells) : Bool := cells.cells.all ByteCell.isWritten

/-- Completes the bytes outside the byte set from `source`, keeping the requesters' bytes (R30, R33). -/
def fillCells (cells : LineCells) (source : Fin 64 → Byte) : LineCells :=
  Table.ofFn (fun k => if (cells.get k).isWritten then cells.get k else .filled (source k))

/-- The 64 bytes of a completed line, offset 0 first (R32). -/
def lineData (cells : LineCells) : Table Byte 64 := cells.map ByteCell.lineByte

/-- The pattern byte that stands at an offset of a line (R91). -/
def patternByte (pattern : Table Byte 8) (k : Fin 64) : Byte := pattern.get ⟨k.val % 8, Nat.mod_lt _ (by decide)⟩

/-- A line of the pattern (R106). -/
def patternLine (pattern : Table Byte 8) : Table Byte 64 := Table.ofFn (patternByte pattern)

/-! ## Memory responses (R115, R177) -/

/-- The statuses of a memory-link response. -/
inductive MemoryStatus where
  | done
  | doneCorrected
  | dataFault
  deriving DecidableEq, Repr

/-- The status a code stands for; the unassigned code is handled as DATA_FAULT (R115, R177). -/
def memoryStatusOf (code : BitVec 2) : MemoryStatus :=
  if code = 0#2 then .done else if code = 1#2 then .doneCorrected else .dataFault

/-- A LINE_READ's response as the bridge uses it: the data with whether it was corrected, or nothing where it is, or is handled
as, DATA_FAULT (R177). -/
def readData (r : MemoryResponse) : Option (Table Byte 64 × Bool) :=
  match memoryStatusOf r.status, r.data with
  | .done, some bytes => some (bytes, false)
  | .doneCorrected, some bytes => some (bytes, true)
  | .dataFault, _ => none
  | _, none => none

/-- Whether a response to a LINE_WRITE says that the line was written (R37). -/
def writeDone (r : MemoryResponse) : Bool := memoryStatusOf r.status != .dataFault

/-! ## Argument fields of management frames (R178, Table 12-5) -/

/-- An index argument of a table of eight. -/
def indexArgument (b : Byte) : Option (Fin 8) :=
  if h : b.toNat < 8 then some ⟨b.toNat, h⟩ else none

/-- The six items (Table 10-3). -/
inductive Item where
  | gatherTimeout
  | memoryTimeout
  | sweepInterval
  | sweepUrgentLevel
  | noticeEnables
  | partIdent
  deriving DecidableEq, Repr

/-- The item a code names. -/
def itemArgument (b : Byte) : Option Item :=
  if b = 0x01#8 then some .gatherTimeout
  else if b = 0x02#8 then some .memoryTimeout
  else if b = 0x03#8 then some .sweepInterval
  else if b = 0x04#8 then some .sweepUrgentLevel
  else if b = 0x05#8 then some .noticeEnables
  else if b = 0x06#8 then some .partIdent
  else none

/-- Whether a value may be given to an item (R171, Table 10-3; R178 for NOTICE_ENABLES). -/
def itemAccepts (item : Item) (value : BitVec 32) : Bool :=
  match item with
  | .gatherTimeout => decide (value.toNat ≤ 1023)
  | .memoryTimeout => decide (1 ≤ value.toNat ∧ value.toNat ≤ 65535)
  | .sweepInterval => decide (value.toNat ≤ 255)
  | .sweepUrgentLevel => decide (1 ≤ value.toNat ∧ value.toNat ≤ 48)
  | .noticeEnables => decide (value.toNat < 2 ^ 11)
  | .partIdent => false

/-- The mode argument of DEFINE_REGION: true for SWEEP, false for READY. -/
def defineModeArgument (b : Byte) : Option Bool :=
  if b = 0#8 then some false else if b = 1#8 then some true else none

/-- The requester match argument: 0xFF is ANY. -/
def matchArgument (b : Byte) : Option (Option Requester) :=
  if b = 0xFF#8 then some none else if h : b.toNat < 16 then some (some ⟨b.toNat, h⟩) else none

/-- The scope argument. -/
def scopeArgument (b : Byte) : Option Scope :=
  if b = 0#8 then some .own else if b = 1#8 then some .all else none

/-- A yes or no argument. -/
def yesNoArgument (b : Byte) : Option Bool :=
  if b = 0#8 then some false else if b = 1#8 then some true else none

/-- The release rule that the arguments of SET_RULE give, none where one of them is not allowed (R50, R178). Base and limit travel as
line numbers. -/
def ruleArguments (base limit : BitVec 40) (requester scope suppress note : Byte) : Option ReleaseRule :=
  if base.toNat < limit.toNat ∧ limit.toNat * Config.lineBytes ≤ Config.spaceBytes then
    match matchArgument requester, scopeArgument scope, yesNoArgument suppress, yesNoArgument note with
    | some who, some sc, some su, some no =>
      some { base := base.toNat * Config.lineBytes, limit := limit.toNat * Config.lineBytes, requester := who,
             scope := sc, suppress := su, note := no }
    | _, _, _, _ => none
  else none

end Sys2Proof.Machine
end

