-- ==== Sys2Proof/Machine/Ops.lean ====
section
/-! DEFINITION. The named operations that the commands share: outputs, the Line Assembly Table, regions and the Ahead List, slots and
claims, the sweep engine, completion effects, long commands, the drain test and the judgement of the head. -/

namespace Sys2Proof.Machine

/-! ## The held reset, the clock -/

/-- The effect of an act that the held power-on reset prevents (R158). -/
def whenRunning (s : State) (act : State → State) : Host.Outcome State Fault Refusal :=
  if s.held then .next s else .next (act s)

/-- The state at the moment `time`; the timebase does not run backward (log entry 2). -/
def atTime (time : Nat) (s : State) : State := { s with now := max s.now time }

/-! ## Outputs -/

/-- Sends a response that leaves the tag-in-use set as it is: a refusal, an OFFLINE or BUSY answer, a posted WRITE's OK, or an
ABORTED answer to a request not taken (R134, R143). -/
def respond (r : Requester) (tag : Tag) (status : ResponseStatus) (data : List Byte) (s : State) : State :=
  { s with out := { s.out with
      responses := s.out.responses ++ [{ requester := r, tag := tag, status := status, data := data }] } }

/-- Removes a pair from the tag-in-use set (R143). -/
def releaseTag (r : Requester) (tag : Tag) (s : State) : State :=
  { s with rqp := { s.rqp with tags := s.rqp.tags.filter (fun p => p != (r, tag)) } }

/-- Puts a pair into the tag-in-use set (R143). -/
def holdTag (r : Requester) (tag : Tag) (s : State) : State :=
  { s with rqp := { s.rqp with tags := s.rqp.tags ++ [(r, tag)] } }

/-- Sends the response of a request that had entered the tag-in-use set; its pair leaves the set (R134). -/
def respondTaken (r : Requester) (tag : Tag) (status : ResponseStatus) (data : List Byte) (s : State) : State :=
  releaseTag r tag (respond r tag status data s)

/-- Forms the answer of a management command; `removes` says that the whole frame's end removes a notice record (R166, R161). -/
def answerFrame (a : Answer) (removes : Bool) (s : State) : State :=
  { s with mli := { s.mli with frame := .answering (answerOut a) removes },
           out := { s.out with answers := s.out.answers ++ [a] } }

/-- Forms an answer with fields. -/
def answerWith (status : AnswerStatus) (fields : AnswerFields) (s : State) : State :=
  answerFrame { status := status, fields := fields } false s

/-- Forms an answer of a status alone. -/
def answer (status : AnswerStatus) (s : State) : State := answerWith status .nothing s

/-! ## Long commands and management frames (R151, R166, R174) -/

/-- A long command ends with an outcome (R151). -/
def endLong (command : LongCommand) (outcome : LongOutcome) (s : State) : State :=
  post (.commandDone command outcome) { s with mc := { s.mc with running := .none, last := some (command, outcome) } }

/-- The completion of a FLUSH whose wait set is empty (R68). -/
def completeFlush (s : State) : State :=
  match s.mc.running with
  | .flush waitSet losses =>
    if waitSet.isEmpty then endLong .flush (if losses then .losses else .clean) s else s
  | .none => s
  | .quiesce => s

/-- What the act of a management frame finds: a FLUSH whose wait set is empty has ended before the next frame, FLUSH_COMPLETE or not
(R67, R174). -/
def frameStart (s : State) : State := completeFlush s

/-- The frame receiver comes into a state. -/
def setFrame (f : Frame) (s : State) : State := { s with mli := { s.mli with frame := f } }

/-- Whether the frame receiver ignores the frame whose request part is whole: it is received while the power-on reset is held, or
it overlaps that reset (R175). -/
def ignoresFrame (s : State) : Bool := s.held || s.mli.frame == .ignoring

/-- The effect of a management frame whose request part is whole: its command's act, or none for a frame that the receiver
ignores; after the overlapping frame the receiver waits for a fresh one (R166, R175). -/
def onFrame (s : State) (act : State → State) : Host.Outcome State Fault Refusal :=
  if ignoresFrame s then .next (if s.mli.frame = .ignoring then setFrame .waiting s else s) else .next (act (frameStart s))

/-! ## Line Assembly Table: lookups (R8, R20) -/

/-- The causes that close an entry (Table 1-4). -/
inductive CloseCause where
  | maskFull
  | idle
  | heldLimit
  | evict
  | release
  | sync
  | flush
  | drain
  deriving DecidableEq, Repr

/-- Whether a record is an entry that is not FREE and satisfies `p`. -/
def entryIs (p : Entry → Bool) (e : Option Entry) : Bool := e.any p

/-- Whether an entry is GATHERING. -/
def isGathering (e : Entry) : Bool := e.state = .gathering

/-- The number of FREE entries. -/
def freeEntries (l : Lat) : Nat := (l.entries.indices Option.isNone).length

/-- The number of entries not FREE: "LAT entries in use" (R20). -/
def entriesInUse (l : Lat) : Nat := (l.entries.indices Option.isSome).length

/-- The FREE entry with the lowest index (R5). -/
def lowestFreeEntry (l : Lat) : Option (Fin 32) := l.entries.findLowest Option.isNone

/-- The GATHERING entry of a line (R3). -/
def gatheringOf (l : Lat) (line : Nat) : Option (Fin 32) :=
  l.entries.findLowest (entryIs (fun e => isGathering e && e.line == line))

/-- The set of entries not FREE that satisfy `p` (R20). -/
def entrySet (l : Lat) (p : Entry → Bool) : FinSet 32 := FinSet.of (fun i => entryIs p (l.entries.get i))

/-- Age order among entries of one line: close numbers ascending, the GATHERING entry last (R8). -/
def ageLe (a b : Entry) : Bool :=
  match a.closeNumber, b.closeNumber with
  | some m, some n => decide (m ≤ n)
  | some _, none => true
  | none, some _ => false
  | none, none => true

/-- The line lookup: the entries of a line that are not FREE, oldest first (R20). -/
def lineLookup (l : Lat) (line : Nat) : List Entry :=
  (l.entries.cells.filterMap (fun e => e.filter (fun x => x.line == line))).insertionSort (fun a b => ageLe a b = true)

/-- The byte of the newest entry whose byte set holds an offset; the entries stand oldest first (R8, R74). -/
def newestByte (entries : List Entry) (k : Fin 64) : Option Byte :=
  entries.foldl (fun under e => ((e.cells.get k).writtenByte).or under) none

/-- A close number newer than that of every entry holding one (R17). -/
def newCloseNumber (l : Lat) : Nat :=
  l.entries.cells.foldl (fun m e => max m ((e.bind Entry.closeNumber).getD 0)) 0 + 1

/-! ## Line Assembly Table: closing (R17) -/

/-- The act of closing. An entry that is not GATHERING is left as it is. -/
def closeIn (cause : CloseCause) (i : Fin 32) (l : Lat) : Lat :=
  match l.entries.get i with
  | some e =>
    if isGathering e then
      { entries := l.entries.set i
          (some { e with state := .closed, closeNumber := some (newCloseNumber l), deadline := none }),
        issueQueue := l.issueQueue ++ [i],
        evictMark := if cause = .evict then some i else l.evictMark }
    else l
  | none => l

/-- Closes one entry. -/
def closeEntry (cause : CloseCause) (i : Fin 32) (s : State) : State := { s with lat := closeIn cause i s.lat }

/-- Closes, in the order of the list, each of the entries. -/
def closeEach (cause : CloseCause) (list : List (Fin 32)) (l : Lat) : Lat :=
  list.foldl (fun l i => closeIn cause i l) l

/-- Closes every GATHERING entry that satisfies `p`, in ascending entry index (R17). -/
def closeWhere (cause : CloseCause) (p : Entry → Bool) (s : State) : State :=
  { s with lat := closeEach cause (s.lat.entries.indices (entryIs (fun e => isGathering e && p e))) s.lat }

/-! ## Regions and the Ahead List (R92, R98) -/

/-- What a present region record holds. -/
def Region.info : Region → Option RegionInfo
  | .absent => none
  | .sweeping info _ => some info
  | .ready info => some info

/-- Whether a line lies in a region (R92). -/
def regionHolds (line : Nat) (r : Region) : Bool :=
  r.info.any (fun i => decide (i.base ≤ line ∧ line < i.base + i.size))

/-- The region lookup for a line (R92). -/
def regionOf (u : Rsw) (line : Nat) : Option (Fin 8) := u.regions.findLowest (regionHolds line)

/-- The Ahead List record of a line. -/
def aheadOf (u : Rsw) (line : Nat) : Option AheadRecord := u.ahead.find? (fun r => r.line == line)

/-- The pattern of a line that is uninitialised: it lies in a SWEEPING region, at or above the watermark, with no ahead record
(R98). -/
def uninitialisedPattern (u : Rsw) (line : Nat) : Option (Table Byte 8) :=
  match regionOf u line with
  | some k =>
    match u.regions.get k with
    | .sweeping info watermark =>
      if watermark ≤ line ∧ (aheadOf u line).isNone = true then some info.pattern else none
    | .ready _ => none
    | .absent => none
  | none => none

/-- Inserts a record at its place in ascending line order (R100). -/
def insertAhead (r : AheadRecord) : List AheadRecord → List AheadRecord
  | [] => [r]
  | x :: rest => if r.line < x.line then r :: x :: rest else x :: insertAhead r rest

/-- Whether a record is the IN_FLIGHT record of a line. -/
def isInFlightOf (line : Nat) (r : AheadRecord) : Bool := r.line == line && r.state == .inFlight

/-- The IN_FLIGHT record of a line becomes WRITTEN (R101). -/
def aheadWritten (line : Nat) (s : State) : State :=
  { s with rsw := { s.rsw with
      ahead := s.rsw.ahead.map (fun r => if isInFlightOf line r then { r with state := .written } else r) } }

/-- The IN_FLIGHT record of a line is removed (R101). -/
def aheadRemoved (line : Nat) (s : State) : State :=
  { s with rsw := { s.rsw with ahead := s.rsw.ahead.filter (fun r => !isInFlightOf line r) } }

/-- The number of Ahead List records that name a region (R95). -/
def aheadCountOf (u : Rsw) (k : Fin 8) : Nat := (u.ahead.filter (fun r => r.region == k)).length

/-! ## Memory slots and claims (R116, R117) -/

/-- The purpose that goes with an owner (R116). -/
def ownerPurpose : Owner → Purpose
  | .fetchOf _ => .entryFetch
  | .writeOf _ => .entryWrite
  | .readOf _ _ => .read
  | .sweepEngine => .sweep

/-- The line a slot claims (Table 6-4). -/
def slotClaim : Slot → Option Nat
  | .free => none
  | .busy _ line _ _ => some line
  | .orphaned _ line _ => some line

/-- Whether a slot is FREE. -/
def slotFree (x : Slot) : Bool := x == .free

/-- Whether a slot is BUSY. -/
def slotBusy : Slot → Bool
  | .free => false
  | .busy _ _ _ _ => true
  | .orphaned _ _ _ => false

/-- Whether a slot is ORPHANED. -/
def slotOrphaned : Slot → Bool
  | .free => false
  | .busy _ _ _ _ => false
  | .orphaned _ _ _ => true

/-- Whether a BUSY or ORPHANED slot claims a line. -/
def claimed (m : Mp) (line : Nat) : Bool := m.slots.cells.any (fun x => slotClaim x == some line)

/-- The FREE slot with the lowest number (R118). -/
def lowestFreeSlot (m : Mp) : Option (Fin 16) := m.slots.findLowest slotFree

/-- Makes a slot FREE; its claim ends and the stall mark is cleared (R121, R123, R127). -/
def freeSlot (i : Fin 16) (s : State) : State :=
  { s with mp := { s.mp with slots := s.mp.slots.set i .free, stallMark := false } }

/-- The deadline of a slot started now (R124). -/
def slotDeadlineFrom (s : State) : Nat := s.now + s.mli.items.memoryTimeout.toNat

/-- Makes a slot BUSY with its request not yet sent and a deadline started now, and prepares the request at the tail of the
send order (R114, R120). -/
def engageSlot (i : Fin 16) (owner : Owner) (line : Nat) (request : MemoryRequest) (s : State) : State :=
  { s with mp := { s.mp with
      slots := s.mp.slots.set i (.busy owner line false (slotDeadlineFrom s)),
      sendOrder := s.mp.sendOrder ++ [request] } }

/-- Posts MEMORY_STALLED and sets the stall mark when every slot is ORPHANED and the mark is clear (R127). -/
def judgeStall (s : State) : State :=
  if s.mp.slots.cells.all slotOrphaned && !s.mp.stallMark then
    post .memoryStalled { s with mp := { s.mp with stallMark := true } }
  else s

/-! ## The Issuer's tests (R25, R27, R29) -/

/-- The fill that R29 decides for an entry on the state as it stands. -/
def fillFor (s : State) (e : Entry) : Fill :=
  if cellsFull e.cells then .none
  else if (uninitialisedPattern s.rsw e.line).isSome then .pattern
  else .fetch

/-- Whether an entry that stands before `i` in the Issue Queue has the line (R25, first condition). -/
def olderHasLine (l : Lat) (i : Fin 32) (line : Nat) : Bool :=
  (l.issueQueue.takeWhile (fun j => j != i)).any (fun j => entryIs (fun e => e.line == line) (l.entries.get j))

/-- Whether the barrier's predecessor set is empty, or there is no barrier (R25, third condition). -/
def barrierOpen (e : Entry) : Bool := e.barrier.all (fun b => b.predecessors.isEmpty)

/-- Whether an entry is a barrier entry ready for its discard (R60). -/
def isSuppressed (e : Entry) : Bool :=
  e.barrier.any (fun b => b.predecessors.isEmpty && b.failed && b.suppress)

/-- The first three conditions of R25 for the entry `e` at index `i`. -/
def mayIssue (s : State) (i : Fin 32) (e : Entry) : Bool :=
  !olderHasLine s.lat i e.line && !claimed s.mp e.line && barrierOpen e

/-- Whether the Ahead List holds fewer than 48 records. -/
def aheadHasRoom (u : Rsw) : Bool := decide (u.ahead.length < Config.aheadCapacity)

/-- Eligibility for issue of an entry of the Issue Queue (R25). -/
def eligible (s : State) (i : Fin 32) : Bool :=
  entryIs (fun e => mayIssue s i e && !isSuppressed e && (fillFor s e != .pattern || aheadHasRoom s.rsw))
    (s.lat.entries.get i)

/-- The oldest eligible entry (R26). -/
def firstEligible (s : State) : Option (Fin 32) := s.lat.issueQueue.find? (eligible s)

/-- The condition under which the starvation mark is set (R27). -/
def starving (s : State) : Bool :=
  !aheadHasRoom s.rsw &&
    s.lat.issueQueue.any (fun i => entryIs (fun e => mayIssue s i e && fillFor s e == .pattern) (s.lat.entries.get i))

/-- Sets or clears the starvation mark as R27 gives at this moment. -/
def judgeStarvation (s : State) : State := { s with starvation := starving s }

/-! ## The sweep engine (R103 to R110) -/

/-- Whether a region is SWEEPING. -/
def isSweeping : Region → Bool
  | .absent => false
  | .sweeping _ _ => true
  | .ready _ => false

/-- The target of an evaluation: the SWEEPING region with the lowest index and its watermark line (R103). -/
def sweepTarget (s : State) : Option (Fin 8 × Nat) :=
  match s.rsw.regions.findLowest isSweeping with
  | some k =>
    match s.rsw.regions.get k with
    | .sweeping _ watermark => some (k, watermark)
    | .ready _ => none
    | .absent => none
  | none => none

/-- Puts the engine in a state. -/
def setEngine (e : Engine) (s : State) : State := { s with rsw := { s.rsw with engine := e } }

/-- The engine passes the watermark line of a SWEEPING region: the watermark advances by one line. At the end of the region the region
becomes READY and SWEEP_DONE is posted (R97, R110). -/
def passLine (k : Fin 8) (s : State) : State :=
  match s.rsw.regions.get k with
  | .sweeping info watermark =>
    if watermark + Config.lineBytes = info.base + info.size then
      post (.sweepDone k info.faults)
        { s with rsw := { s.rsw with regions := s.rsw.regions.set k (.ready info) } }
    else
      { s with rsw := { s.rsw with regions := s.rsw.regions.set k (.sweeping info (watermark + Config.lineBytes)) } }
  | .ready _ => s
  | .absent => s

/-- Removes the Ahead List record of a line that the sweep passes (R102, R104). -/
def dropAhead (line : Nat) (s : State) : State :=
  { s with rsw := { s.rsw with ahead := s.rsw.ahead.filter (fun r => r.line != line) } }

/-- Whether the Ahead List holds a WRITTEN record for a line. -/
def writtenAhead (u : Rsw) (line : Nat) : Bool := u.ahead.any (fun r => r.line == line && r.state == .written)

/-- Evaluations one after another, at most `fuel` of them passing a WRITTEN record (R104). -/
def evaluateWith : Nat → State → State
  | fuel, s =>
    if s.mc.mode = .online then
      match sweepTarget s with
      | none => setEngine .idle s
      | some (k, line) =>
        if writtenAhead s.rsw line then
          match fuel with
          | 0 => setEngine .idle s
          | fuel + 1 => evaluateWith fuel (passLine k (dropAhead line s))
        else if claimed s.mp line then setEngine (.blocked k line) s
        else setEngine (.ready k line) s
    else setEngine .idle s

/-- A fresh evaluation of the engine (R103, R104). Each WRITTEN record passed leaves the Ahead List, so its length bounds the
chain. -/
def evaluate (s : State) : State := evaluateWith s.rsw.ahead.length s

/-- Whether the sweep is urgent (R109). -/
def urgent (s : State) : Bool :=
  decide (s.mli.items.sweepUrgentLevel.toNat ≤ s.rsw.ahead.length) || s.starvation

/-- Ends a running pacing when the sweep is urgent (R108). -/
def judgeUrgency (s : State) : State :=
  match s.rsw.engine with
  | .pacing _ => if urgent s then evaluate s else s
  | .idle => s
  | .ready _ _ => s
  | .blocked _ _ => s
  | .writing _ _ => s

/-- Judges the starvation mark and the sweep's urgency after an act that may have changed what they rest on (R27, R109). -/
def settleSweep (s : State) : State := judgeStarvation (judgeUrgency (judgeStarvation s))

/-- The claim on a line has ended: an engine BLOCKED on it evaluates afresh (R105). -/
def claimEnded (line : Nat) (s : State) : State :=
  match s.rsw.engine with
  | .blocked _ target => if target = line then evaluate s else s
  | .idle => s
  | .pacing _ => s
  | .ready _ _ => s
  | .writing _ _ => s

/-- A slot has been granted for a line: an engine READY for it becomes BLOCKED (R105). -/
def claimBegan (line : Nat) (s : State) : State :=
  match s.rsw.engine with
  | .ready k target => if target = line then setEngine (.blocked k target) s else s
  | .idle => s
  | .pacing _ => s
  | .blocked _ _ => s
  | .writing _ _ => s

/-- One more sweep fault, saturating at 65535 (R107). -/
def countFault (c : BitVec 16) : BitVec 16 := if c = 0xFFFF#16 then c else c + 1#16

/-- Counts and reports a sweep fault of the engine's region (R107). -/
def sweepFault (k : Fin 8) (line : Nat) (cause : FaultCause) (s : State) : State :=
  post (.sweepFault k line cause)
    (match s.rsw.regions.get k with
     | .sweeping info watermark =>
       { s with rsw := { s.rsw with
           regions := s.rsw.regions.set k (.sweeping { info with faults := countFault info.faults } watermark) } }
     | .ready _ => s
     | .absent => s)

/-- The engine after its write has ended: in ONLINE it paces, unless the sweep is urgent or SWEEP_INTERVAL is 0, else it
evaluates; outside ONLINE it becomes IDLE (R107, R108). -/
def sweepGoOn (s : State) : State :=
  if s.mc.mode = .online then
    if urgent s || s.mli.items.sweepInterval == 0#32 then evaluate s
    else setEngine (.pacing (s.now + s.mli.items.sweepInterval.toNat)) s
  else setEngine .idle s

/-- The end of a sweep write (R107); `fault` says how it failed. DESIGN CHOICE (log entry 13, unsafe): SWEEP_FAULT is posted
before the SWEEP_DONE of the same end. -/
def sweepWriteEnd (fault : Option FaultCause) (s : State) : State :=
  match s.rsw.engine with
  | .writing k line =>
    let s :=
      match fault with
      | some cause => sweepFault k line cause s
      | none => s
    sweepGoOn (judgeStarvation (passLine k s))
  | .idle => s
  | .pacing _ => s
  | .ready _ _ => s
  | .blocked _ _ => s

/-! ## The drain (R153) -/

/-- The drain condition (R153). -/
def drained (s : State) : Bool :=
  s.lat.entries.cells.all Option.isNone && s.rdp.contexts.cells.all Option.isNone &&
  s.rqp.wrt.cells.all Option.isNone && s.ord.sync.cells.all Option.isNone &&
  s.mp.slots.cells.all (fun x => !slotBusy x) &&
  (match s.rsw.engine with
   | .writing _ _ => false
   | .idle => true
   | .pacing _ => true
   | .ready _ _ => true
   | .blocked _ _ => true)

/-- Tests the drain condition in DRAINING; when it holds the drain completes (R153). -/
def testDrain (s : State) : State :=
  if s.mc.mode = .draining && drained s then
    endLong .quiesce .done { s with mc := { s.mc with mode := .quiesced } }
  else s

/-! ## Completion effects (R41 to R46) -/

/-- How an entry ends (R41). -/
inductive EndKind where
  | completed
  | lost (cause : LostCause)
  | unconfirmed
  deriving DecidableEq, Repr

/-- The status given to held acknowledgements (Table 2-3). -/
def endHeldStatus : EndKind → HeldStatus
  | .completed => .ok
  | .lost _ => .writeFailed
  | .unconfirmed => .timeout

/-- Whether an end is LOST or UNCONFIRMED. -/
def endFailed : EndKind → Bool
  | .completed => false
  | .lost _ => true
  | .unconfirmed => true

/-- Posts the notice of an end (R42 step 1, R46). -/
def postEnd (e : Entry) (kind : EndKind) (s : State) : State :=
  match kind with
  | .completed => s
  | .lost cause => post (.writeLost e.line e.contributors cause) s
  | .unconfirmed => post (.writeUnconfirmed e.line e.contributors) s

/-- Counts one WRT record down; at zero it is answered and freed (R43, R144). -/
def countDown (status : HeldStatus) (w : Fin 16) (s : State) : State :=
  match s.rqp.wrt.get w with
  | some r =>
    let worst := worseHeld r.worst status
    if r.outstanding ≤ 1 then
      respondTaken r.requester r.tag (heldResponse worst) []
        { s with rqp := { s.rqp with wrt := s.rqp.wrt.set w none } }
    else
      { s with rqp := { s.rqp with
          wrt := s.rqp.wrt.set w (some { r with outstanding := r.outstanding - 1, worst := worst }) } }
  | none => s

/-- Counts down every held acknowledgement of an ending entry, in list order (R43). -/
def countDownHeld (status : HeldStatus) (held : List (Fin 16)) (s : State) : State :=
  held.foldl (fun s w => countDown status w s) s

/-- A SYNC wait set without an ended entry (R45). -/
def syncWithout (i : Fin 32) (r : Option SyncRecord) : Option SyncRecord :=
  r.map (fun x => { x with waitSet := x.waitSet.erase i })

/-- Whether removing the ended entry empties a SYNC wait set that held it (R65). -/
def syncEmptied (i : Fin 32) (r : Option SyncRecord) : Bool :=
  r.any (fun x => x.waitSet.has i && (x.waitSet.erase i).isEmpty)

/-- A barrier without an ended entry; a failed end marks a barrier that held it (R45). -/
def barrierWithout (i : Fin 32) (failed : Bool) (b : Barrier) : Barrier :=
  if b.predecessors.has i then
    { b with predecessors := b.predecessors.erase i, failed := b.failed || failed }
  else b

/-- An entry whose barrier forgets an ended entry. -/
def entryWithout (i : Fin 32) (failed : Bool) (e : Option Entry) : Option Entry :=
  e.map (fun x => { x with barrier := x.barrier.map (barrierWithout i failed) })

/-- Whether the end of entry `i` makes an entry ready for its discard (R60): its barrier held `i`, and it is suppressed
afterwards. -/
def becomesSuppressed (i : Fin 32) (failed : Bool) (e : Option Entry) : Bool :=
  e.any (fun x => x.barrier.any (fun b => b.predecessors.has i) &&
    x.barrier.any (fun b =>
      let b := barrierWithout i failed b
      b.predecessors.isEmpty && b.failed && b.suppress))

/-- The FLUSH wait set without an ended entry; a failed end makes the outcome LOSSES (R45, R68). -/
def runningWithout (i : Fin 32) (failed : Bool) (r : Running) : Running :=
  match r with
  | .flush waitSet losses => .flush (waitSet.erase i) (losses || (failed && waitSet.has i))
  | .none => .none
  | .quiesce => .quiesce

/-- Removes an ended entry's index from every wait set and predecessor set (R45). SYNCs and barrier entries that this releases are
listed for their own events, in ascending order (R60, R65). -/
def forgetEntry (i : Fin 32) (failed : Bool) (s : State) : State :=
  { s with
    lat := { s.lat with entries := s.lat.entries.map (entryWithout i failed) },
    ord := { s.ord with
      sync := s.ord.sync.map (syncWithout i),
      syncReady := s.ord.syncReady ++ s.ord.sync.indices (syncEmptied i),
      discards := s.ord.discards ++ s.lat.entries.indices (becomesSuppressed i failed) },
    mc := { s.mc with running := runningWithout i failed s.mc.running } }

/-- The fill counter of an entry that ended COMPLETED (R37). -/
def countFill (e : Entry) (kind : EndKind) (s : State) : State :=
  match kind, e.fill with
  | .completed, some .none => countOne .wholeWrites s
  | .completed, some .fetch => countOne .fetchWrites s
  | .completed, some .pattern => countOne .patternWrites s
  | .completed, none => s
  | .lost _, _ => s
  | .unconfirmed, _ => s

/-- Makes an entry FREE, clearing the eviction mark that names it (R21). -/
def freeEntry (i : Fin 32) (s : State) : State :=
  { s with lat := { s.lat with
      entries := s.lat.entries.set i none,
      evictMark := if s.lat.evictMark = some i then none else s.lat.evictMark } }

/-- The completion effects of the entry `e` at index `i`, in the order of R42. -/
def completionEffects (i : Fin 32) (e : Entry) (kind : EndKind) (s : State) : State :=
  let s := postEnd e kind s
  let s := if endFailed kind then setFailureFlags e.contributors s else s
  let s := countDownHeld (endHeldStatus kind) e.held s
  let s := forgetEntry i (endFailed kind) s
  let s := countFill e kind s
  freeEntry i s

/-- Ends the entry at index `i`, if it is not FREE. -/
def endEntry (i : Fin 32) (kind : EndKind) (s : State) : State :=
  match s.lat.entries.get i with
  | some e => completionEffects i e kind s
  | none => s

/-! ## Reading a piece (R73 to R82) -/

/-- The byte of the newest entry of the piece's line at an offset, as the table stands (R74). -/
def pendingByte (s : State) (p : Span) (k : Fin 64) : Option Byte := newestByte (lineLookup s.lat p.line) k

/-- Whether the entries of the line cover every offset of the piece. -/
def covered (s : State) (p : Span) : Bool := (spanOffsets p).all (fun k => (pendingByte s p k).isSome)

/-- The bytes of the piece: pending bytes over `under` (R74, R75, R79, R81). -/
def overlaid (s : State) (p : Span) (under : Fin 64 → Byte) : List Byte :=
  (spanOffsets p).map (fun k => (pendingByte s p k).getD (under k))

/-- The cases of Table 4-3, the first two with the piece's bytes. -/
inductive Resolution where
  | forward (bytes : List Byte)
  | pattern (bytes : List Byte)
  | memory
  deriving DecidableEq, Repr

/-- Resolves a read piece on the state as it stands (R73). -/
def resolve (s : State) (p : Span) : Resolution :=
  if covered s p then .forward (overlaid s p (fun _ => 0#8))
  else
    match uninitialisedPattern s.rsw p.line with
    | some pattern => .pattern (overlaid s p (patternByte pattern))
    | none => .memory

/-- The buffer with `bytes` from position `pos` on. -/
def writeBuffer (buffer : List (Option Byte)) (pos : Nat) (bytes : List Byte) : List (Option Byte) :=
  buffer.take pos ++ bytes.map some ++ buffer.drop (pos + bytes.length)

/-- Whether a piece is DONE. -/
def pieceDone (p : ReadPiece) : Bool :=
  match p.state with
  | .done _ => true
  | .waiting => false
  | .reading => false

/-- Whether every piece of a context is DONE (R84). -/
def contextDone (c : Context) : Bool := c.pieces.all pieceDone

/-- A context after its piece `i` has become DONE with a status and bytes (R84). -/
def contextWithDone (c : Context) (i : Nat) (status : ReadStatus) (bytes : List Byte) : Context :=
  match c.pieces[i]? with
  | some p =>
    { c with
      pieces := c.pieces.set i { p with state := .done status },
      buffer := writeBuffer c.buffer p.span.pos bytes,
      worst := worseRead c.worst status }
  | none => c

/-- Makes a piece DONE. A context whose pieces are then all DONE awaits its response (R84). -/
def finishPiece (c : Fin 16) (i : Nat) (status : ReadStatus) (bytes : List Byte) (s : State) : State :=
  match s.rdp.contexts.get c with
  | some x =>
    let x := contextWithDone x i status bytes
    { s with rdp := {
        contexts := s.rdp.contexts.set c (some x),
        ready := if contextDone x then s.rdp.ready ++ [c] else s.rdp.ready } }
  | none => s

/-- Puts a piece into a state other than DONE. -/
def setPieceState (c : Fin 16) (i : Nat) (state : PieceState) (s : State) : State :=
  match s.rdp.contexts.get c with
  | some x =>
    { s with rdp := { s.rdp with
        contexts := s.rdp.contexts.set c (some { x with pieces := x.pieces.modify i (fun p => { p with state := state }) }) } }
  | none => s

/-- Applies a resolution that needs no memory to piece `i` of context `c` (R74, R75); true in the second part when the piece
needs memory (R76). -/
def resolvePiece (c : Fin 16) (i : Nat) (p : Span) (s : State) : State × Bool :=
  match resolve s p with
  | .forward bytes => (finishPiece c i .ok bytes (countOne .forwardedReads s), false)
  | .pattern bytes => (finishPiece c i .ok bytes (countOne .patternReads s), false)
  | .memory => (s, true)

/-- A read piece formed without memory's bytes after a fault or a deadline: pending bytes, zeros where none covers, and READ_FAULT
unless every offset is covered (R81, R82, R85). -/
def failPiece (c : Fin 16) (i : Nat) (status : ReadStatus) (cause : FaultCause) (s : State) : State :=
  match s.rdp.contexts.get c with
  | some x =>
    match x.pieces[i]? with
    | some p =>
      let bytes := overlaid s p.span (fun _ => 0#8)
      if covered s p.span then finishPiece c i .ok bytes s
      else finishPiece c i status bytes (post (.readFault p.span.line x.requester x.tag cause) s)
    | none => s
  | none => s

/-- A read piece formed from memory's line with the pending bytes over it (R79). -/
def returnPiece (c : Fin 16) (i : Nat) (line : Table Byte 64) (s : State) : State :=
  match s.rdp.contexts.get c with
  | some x =>
    match x.pieces[i]? with
    | some p => finishPiece c i .ok (overlaid s p.span line.get) s
    | none => s
  | none => s

/-! ## Judging the head (R136 to R141) -/

/-- The release rule that applies to a WRITE: the lowest-index present rule that it matches (R52). -/
def ruleMatches (q : Request) (r : Option ReleaseRule) : Bool :=
  r.any (fun r =>
    r.requester.all (fun who => who == q.requester) &&
    (requestSpans q).any (fun p => decide (r.base ≤ p.line ∧ p.line < r.limit)))

/-- The applying rule's index (R52). -/
def ruleFor (u : OrderUnit) (q : Request) : Option (Fin 8) := u.rules.findLowest (ruleMatches q)

/-- The merge target of a piece of a write that matches no release rule (R4). -/
def mergeTarget (l : Lat) (aoc : Bool) (p : Span) : Option (Fin 32) :=
  match gatheringOf l p.line with
  | some i =>
    if !aoc || entryIs (fun e => decide (e.held.length < Config.heldCapacity)) (l.entries.get i) then some i else none
  | none => none

/-- The merge targets of the head's pieces; a write under a release rule has none (R4, R53). -/
def headTargets (s : State) (q : Request) : List (Fin 32) :=
  if (ruleFor s.ord q).isSome then [] else (requestSpans q).filterMap (mergeTarget s.lat q.aoc)

/-- The number of FREE entries the head needs (R4). -/
def entriesNeeded (s : State) (q : Request) : Nat := (requestSpans q).length - (headTargets s q).length

/-- The GATHERING entries whose held list is full, on the lines of an AOC head that matches no rule, lower line first (R14). -/
def heldLimitEntries (s : State) (q : Request) : List (Fin 32) :=
  if q.aoc && (ruleFor s.ord q).isNone then
    ((requestSpans q).filterMap (fun p => gatheringOf s.lat p.line)).filter
      (fun i => entryIs (fun e => decide (Config.heldCapacity ≤ e.held.length)) (s.lat.entries.get i))
  else []

/-- The older of two eviction candidates: by last merge time, then by index (R15). -/
def olderMerge (l : Lat) (best : Option (Fin 32)) (i : Fin 32) : Option (Fin 32) :=
  match best with
  | none => some i
  | some b =>
    match l.entries.get b, l.entries.get i with
    | some x, some y => if y.lastMerge < x.lastMerge then some i else some b
    | _, _ => some b

/-- The eviction victim: the GATHERING entry with the oldest last merge time, other than the head's merge targets (R15). -/
def victim (s : State) (q : Request) : Option (Fin 32) :=
  ((s.lat.entries.indices (entryIs isGathering)).filter (fun i => !(headTargets s q).contains i)).foldl
    (olderMerge s.lat) none

/-- The EVICT close of a head that lacks FREE entries while no eviction is outstanding (R15, R16). -/
def evictFor (q : Request) (s : State) : State :=
  if freeEntries s.lat < entriesNeeded s q && s.lat.evictMark.isNone then
    match victim s q with
    | some i => closeEntry .evict i s
    | none => s
  else s

/-- The closes of the resource step for a WRITE head (R14, R15, R141). -/
def resourceCloses (q : Request) (s : State) : State :=
  evictFor q { s with lat := closeEach .heldLimit (heldLimitEntries s q) s.lat }

/-- What the steps before the resource step make of the head (R137 to R139). -/
inductive Verdict where
  | stays
  | offline
  | refused (status : ResponseStatus) (cause : RefusalCause)
  | passes
  deriving DecidableEq, Repr

/-- The legality step (R138). -/
def legality (s : State) (q : Request) : Option RefusalCause :=
  if q.kind = .unknown then some .badKind
  else if (q.kind = .read ∨ q.kind = .write) ∧ (q.length.val = 0 ∨ 64 < q.length.val) then some .badLength
  else if s.rqp.tags.contains (q.requester, q.tag) then some .duplicateTag
  else none

/-- The range step for a READ or WRITE (R139). -/
def range (s : State) (q : Request) : Option RefusalCause :=
  if q.kind = .sync then none
  else if Config.spaceBytes < requestAddress q + q.length.val then some .beyondSpace
  else if (requestSpans q).all (fun p => (regionOf s.rsw p.line).isSome) then none
  else some .noRegion

/-- The mode, legality and range steps, in that order (R137 to R139). -/
def judge (s : State) (q : Request) : Verdict :=
  match s.mc.mode with
  | .offline => .offline
  | .draining => .stays
  | .quiesced => .stays
  | .online =>
    match legality s q with
    | some cause => .refused .protocolError cause
    | none =>
      match range s q with
      | some cause => .refused .rangeError cause
      | none => .passes

/-- A judgement of the head that makes the closes of the resource step; the take itself is TAKE (R136, R141). -/
def judgeHead (s : State) : State :=
  match s.rqp.intake with
  | [] => s
  | q :: _ => if judge s q = .passes ∧ q.kind = .write then resourceCloses q s else s

/-- The link's held-back requests join the Intake Queue while it has room (R135). -/
def acceptFromLink (s : State) : State :=
  let room := Config.intakeCapacity - s.rqp.intake.length
  { s with rqp := { s.rqp with
      intake := s.rqp.intake ++ s.rqp.link.take room,
      link := s.rqp.link.drop room } }

end Sys2Proof.Machine
end

