-- ==== Sys2Proof/Machine/MemoryPort.lean ====
section
/-! DEFINITION. The commands of the Memory Port: GRANT, MEMORY_LINK_ACCEPT, MEMORY_RESPONSE, SLOT_DEADLINE. -/

namespace Sys2Proof.Machine

/-! ## GRANT (R118 to R120) -/

/-- The class that follows in the order WRITE, READ, SWEEP (R119). -/
def nextClass : ArbiterClass → ArbiterClass
  | .write => .read
  | .read => .sweep
  | .sweep => .write

/-- The WAITING pieces of a context whose lines are unclaimed, with their indices, first piece first (R77). -/
def waitingPieces (s : State) (c : Fin 16) : List (Fin 16 × Nat × Span) :=
  match s.rdp.contexts.get c with
  | some x =>
    (x.pieces.zipIdx.filter (fun pi => pi.1.state = .waiting ∧ claimed s.mp pi.1.span.line = false)).map
      (fun pi => (c, pi.2, pi.1.span))
  | none => []

/-- The age of a context. -/
def contextAge (u : Rdp) (c : Fin 16) : Nat := ((u.contexts.get c).map Context.age).getD 0

/-- The ACTIVE contexts, oldest first. -/
def contextsByAge (u : Rdp) : List (Fin 16) :=
  (u.contexts.indices Option.isSome).insertionSort (fun a b => contextAge u a ≤ contextAge u b)

/-- The candidates of the READ class, oldest first (R77). -/
def readCandidates (s : State) : List (Fin 16 × Nat × Span) := (contextsByAge s.rdp).flatMap (waitingPieces s)

/-- Whether a class has a claim (R118). -/
def hasClaim (s : State) : ArbiterClass → Bool
  | .write => (firstEligible s).isSome
  | .read => !(readCandidates s).isEmpty
  | .sweep =>
    match s.rsw.engine with
    | .ready _ _ => true
    | .idle => false
    | .pacing _ => false
    | .blocked _ _ => false
    | .writing _ _ => false

/-- The class that receives the grant: the first with a claim from the turn pointer on (R119). -/
def grantedClass (s : State) : Option ArbiterClass :=
  [s.mp.turn, nextClass s.mp.turn, nextClass (nextClass s.mp.turn)].find? (hasClaim s)

/-- The entry as it stands once issued with a fill (R28, R30, R31). -/
def issuedEntry (s : State) (e : Entry) : Entry :=
  match fillFor s e with
  | .none => { e with state := .writing, fill := some .none }
  | .fetch => { e with state := .fetching, fill := some .fetch }
  | .pattern =>
    { e with
      state := .writing, fill := some .pattern,
      cells :=
        match uninitialisedPattern s.rsw e.line with
        | some pattern => fillCells e.cells (patternByte pattern)
        | none => e.cells }

/-- The owner and the request of an issued entry's slot (R28). -/
def issueRequest (slot : Fin 16) (i : Fin 32) (e : Entry) : Owner × MemoryRequest :=
  match e.state with
  | .fetching => (.fetchOf i, .lineRead slot e.line)
  | .gathering => (.writeOf i, .lineWrite slot e.line (lineData e.cells))
  | .closed => (.writeOf i, .lineWrite slot e.line (lineData e.cells))
  | .writing => (.writeOf i, .lineWrite slot e.line (lineData e.cells))

/-- The Ahead List after an issue: PATTERN fill inserts an IN_FLIGHT record for the line (R30, R100). -/
def aheadAfterIssue (s : State) (e : Entry) : List AheadRecord :=
  match fillFor s e, regionOf s.rsw e.line with
  | .pattern, some k => insertAhead { line := e.line, region := k, state := .inFlight } s.rsw.ahead
  | _, _ => s.rsw.ahead

/-- The grant of slot `slot` to the WRITE class for the entry `e` at index `i`, as one act (R28). -/
def issueEntry (slot : Fin 16) (i : Fin 32) (e : Entry) (s : State) : State :=
  let issued := issuedEntry s e
  let (owner, request) := issueRequest slot i issued
  let ahead := aheadAfterIssue s e
  let s := engageSlot slot owner e.line request s
  claimBegan e.line
    { s with
      lat := { s.lat with
        entries := s.lat.entries.set i (some issued), issueQueue := s.lat.issueQueue.filter (fun j => j != i) },
      rsw := { s.rsw with ahead := ahead } }

/-- A grant to the WRITE class (R26). -/
def grantWrite (slot : Fin 16) (s : State) : State :=
  match firstEligible s with
  | some i =>
    match s.lat.entries.get i with
    | some e => issueEntry slot i e s
    | none => s
  | none => s

/-- A grant to the READ class: candidates resolved without memory become DONE, and the first that needs memory receives the slot
(R77, R78). -/
def grantRead (slot : Fin 16) : List (Fin 16 × Nat × Span) → State → State
  | [], s => s
  | (c, i, p) :: rest, s =>
    let resolved := resolvePiece c i p s
    if resolved.2 then
      claimBegan p.line
        (setPieceState c i .reading (engageSlot slot (.readOf c i) p.line (.lineRead slot p.line) s))
    else grantRead slot rest resolved.1

/-- A grant to the SWEEP class (R106). -/
def grantSweep (slot : Fin 16) (s : State) : State :=
  match s.rsw.engine with
  | .ready k line =>
    match (s.rsw.regions.get k).info with
    | some info =>
      setEngine (.writing k line)
        (engageSlot slot .sweepEngine line (.lineWrite slot line (patternLine info.pattern)) s)
    | none => s
  | .idle => s
  | .pacing _ => s
  | .blocked _ _ => s
  | .writing _ _ => s

/-- The grant of one slot to one class; the pointer moves past the class served (R119, R120). -/
def grantTo (slot : Fin 16) (cls : ArbiterClass) (s : State) : State :=
  let granted :=
    match cls with
    | .write => grantWrite slot s
    | .read => grantRead slot (readCandidates s) s
    | .sweep => grantSweep slot s
  { granted with mp := { granted.mp with turn := nextClass cls } }

/-- One grant, when a slot is FREE and a class has a claim (R118). -/
def grantOne (s : State) : State :=
  match lowestFreeSlot s.mp, grantedClass s with
  | some slot, some cls => settleSweep (grantTo slot cls s)
  | _, _ => s

/-- GRANT (R120). -/
def execGrant (time : Nat) (s : State) : Host.Outcome State Fault Refusal :=
  whenRunning s (fun s => grantOne (atTime time s))

/-! ## MEMORY_LINK_ACCEPT (R114) -/

/-- A slot whose request the link has accepted. -/
def slotSent : Slot → Slot
  | .free => .free
  | .busy owner line _ deadline => .busy owner line true deadline
  | .orphaned purpose line _ => .orphaned purpose line true

/-- The head of the send order leaves it, its slot is marked as sent, and the request stands on the memory link (R114). -/
def acceptHead (s : State) : State :=
  match s.mp.sendOrder with
  | [] => s
  | m :: rest =>
    let slot := memoryRequestSlot m
    { s with
      mp := { s.mp with sendOrder := rest, slots := s.mp.slots.set slot (slotSent (s.mp.slots.get slot)) },
      out := { s.out with memory := s.out.memory ++ [m] } }

/-- MEMORY_LINK_ACCEPT (R114). -/
def execMemoryLinkAccept (s : State) : Host.Outcome State Fault Refusal := whenRunning s acceptHead

/-! ## MEMORY_RESPONSE (R121 to R123) -/

/-- What follows an act that ended an entry: the head is judged again, the drain is tested, starvation and urgency are judged
(R136, R153, R27, R109). -/
def afterEntryEnd (s : State) : State := settleSweep (testDrain (judgeHead s))

/-- The fetch-to-write step: the merged line is prepared on the same slot, whose claim on `line` does not lapse (R33). -/
def fetchToWrite (slot : Fin 16) (i : Fin 32) (line : Nat) (e : Entry) (memory : Table Byte 64) (s : State) : State :=
  let merged : Entry := { e with state := .writing, cells := fillCells e.cells memory.get }
  let s := { s with lat := { s.lat with entries := s.lat.entries.set i (some merged) } }
  engageSlot slot (.writeOf i) line (.lineWrite slot line (lineData merged.cells)) s

/-- The response to an entry's fetch (R33, R34). -/
def fetchReturned (slot : Fin 16) (i : Fin 32) (line : Nat) (r : MemoryResponse) (s : State) : State :=
  match readData r with
  | some (memory, corrected) =>
    let s := if corrected then countOne .correctedReads s else s
    match s.lat.entries.get i with
    | some e => fetchToWrite slot i line e memory s
    | none => s
  | none => afterEntryEnd (claimEnded line (endEntry i (.lost .fetchFault) (freeSlot slot s)))

/-- What the end of an entry's write makes of its line's IN_FLIGHT record, for PATTERN fill only (R101). -/
def aheadAfterWrite (i : Fin 32) (written : Bool) (s : State) : State :=
  match s.lat.entries.get i with
  | some e =>
    if e.fill = some .pattern then
      if written then aheadWritten e.line s else aheadRemoved e.line s
    else s
  | none => s

/-- The response to an entry's write (R37, R38). -/
def writeReturned (slot : Fin 16) (i : Fin 32) (line : Nat) (r : MemoryResponse) (s : State) : State :=
  let s := aheadAfterWrite i (writeDone r) (freeSlot slot s)
  let s := endEntry i (if writeDone r then .completed else .lost .writeFault) s
  afterEntryEnd (claimEnded line s)

/-- The response to a read piece's LINE_READ (R79, R81). -/
def readReturned (slot : Fin 16) (c : Fin 16) (i : Nat) (line : Nat) (r : MemoryResponse) (s : State) : State :=
  let s := freeSlot slot s
  let s :=
    match readData r with
    | some (memory, corrected) =>
      returnPiece c i memory (if corrected then countOne .correctedReads s else s)
    | none => failPiece c i .dataError .dataFault s
  settleSweep (testDrain (claimEnded line s))

/-- The response to a sweep write (R107). -/
def sweepReturned (slot : Fin 16) (line : Nat) (r : MemoryResponse) (s : State) : State :=
  let s := sweepWriteEnd (if writeDone r then none else some .dataFault) (freeSlot slot s)
  settleSweep (testDrain (claimEnded line s))

/-- A late response: counted, reported, and the slot is freed (R123). -/
def lateResponse (slot : Fin 16) (purpose : Purpose) (line : Nat) (s : State) : State :=
  let s := post (.lateResponse slot line purpose) (countOne .lateResponses s)
  settleSweep (claimEnded line (freeSlot slot s))

/-- A response handled by the state of the slot it names (R115, Table 6-6). -/
def receive (r : MemoryResponse) (s : State) : State :=
  match s.mp.slots.get r.slot with
  | .busy owner line true _ =>
    match owner with
    | .fetchOf i => fetchReturned r.slot i line r s
    | .writeOf i => writeReturned r.slot i line r s
    | .readOf c i => readReturned r.slot c i line r s
    | .sweepEngine => sweepReturned r.slot line r s
  | .orphaned purpose line true => lateResponse r.slot purpose line s
  | .busy _ _ false _ => post (.strayResponse r.slot) s
  | .orphaned _ _ false => post (.strayResponse r.slot) s
  | .free => post (.strayResponse r.slot) s

/-- MEMORY_RESPONSE (R121). While the power-on reset is held a response is discarded without notice or count (R158). -/
def execMemoryResponse (time : Nat) (r : MemoryResponse) (s : State) : Host.Outcome State Fault Refusal :=
  whenRunning s (fun s => receive r (atTime time s))

/-! ## SLOT_DEADLINE (R125) -/

/-- The owner is told TIMEOUT (R35, R39, R82, R107). -/
def ownerTimeout (owner : Owner) (s : State) : State :=
  match owner with
  | .fetchOf i => endEntry i (.lost .fetchTimeout) s
  | .writeOf i => endEntry i .unconfirmed (aheadAfterWrite i false s)
  | .readOf c i => failPiece c i .timeout .timeout s
  | .sweepEngine => sweepWriteEnd (some .timeout) s

/-- Whether the owner is an entry. -/
def ownerIsEntry : Owner → Bool
  | .fetchOf _ => true
  | .writeOf _ => true
  | .readOf _ _ => false
  | .sweepEngine => false

/-- A BUSY slot's deadline passes: the slot becomes ORPHANED, its owner is told TIMEOUT, and the stall is judged (R125, R127). A
slot that is not BUSY has no deadline.

DESIGN CHOICE (log entry 13, unsafe): no rule orders the notices of this act against MEMORY_STALLED. The model posts what the
owner's handling brings first (WRITE_LOST, WRITE_UNCONFIRMED, READ_FAULT, SWEEP_FAULT, and the SWEEP_DONE of a sweep write that
ends its region, R107 and R110), then MEMORY_STALLED, then a SWEEP_DONE that urgency brings and the COMMAND_DONE of a drain. -/
def expireSlot (slot : Fin 16) (s : State) : State :=
  match s.mp.slots.get slot with
  | .busy owner line sent deadline =>
    let s := atTime deadline s
    let s := { s with mp := { s.mp with slots := s.mp.slots.set slot (.orphaned (ownerPurpose owner) line sent) } }
    let s := judgeStall (ownerTimeout owner s)
    if ownerIsEntry owner then afterEntryEnd s else settleSweep (testDrain s)
  | .orphaned _ _ _ => s
  | .free => s

/-- SLOT_DEADLINE (R125). -/
def execSlotDeadline (slot : Fin 16) (s : State) : Host.Outcome State Fault Refusal := whenRunning s (expireSlot slot)

end Sys2Proof.Machine
end

