-- ==== Sys2Proof/Machine/Modes.lean ====
section
/-! DEFINITION. The mode commands, FLUSH and RECLAIM_SLOTS. -/

namespace Sys2Proof.Machine

/-- Puts Mode Control into a mode. -/
def setMode (m : Mode) (s : State) : State := { s with mc := { s.mc with mode := m } }

/-- Makes a long command the running one. -/
def startLong (r : Running) (s : State) : State := { s with mc := { s.mc with running := r } }

/-- The engine's evaluation when the mode becomes ONLINE: a WRITING engine keeps its write (R103, R111). -/
def evaluateOnline (s : State) : State :=
  match s.rsw.engine with
  | .writing _ _ => s
  | .idle => evaluate s
  | .pacing _ => evaluate s
  | .ready _ _ => evaluate s
  | .blocked _ _ => evaluate s

/-- What the new ONLINE mode brings: the head is judged and the engine evaluates (R136, R103). -/
def comeOnline (s : State) : State := settleSweep (evaluateOnline (judgeHead (setMode .online s)))

/-- The act of GO_ONLINE (R150). -/
def goOnline (s : State) : State :=
  if s.mc.mode = .offline then comeOnline (answer .done s) else answer .refusedMode s

/-- GO_ONLINE (R150). -/
def execGoOnline (s : State) : Host.Outcome State Fault Refusal := onFrame s goOnline

/-- The engine leaves ONLINE work: a WRITING engine keeps its write, any other becomes IDLE (R111). -/
def engineLeaves (s : State) : State :=
  match s.rsw.engine with
  | .writing _ _ => s
  | .idle => s
  | .pacing _ => setEngine .idle s
  | .ready _ _ => setEngine .idle s
  | .blocked _ _ => setEngine .idle s

/-- The start of a drain (R152). -/
def startDrain (s : State) : State :=
  judgeStarvation
    (testDrain (engineLeaves (closeWhere .drain (fun _ => true) (setMode .draining (startLong .quiesce (answer .started s))))))

/-- The act of QUIESCE (R152). -/
def quiesce (s : State) : State :=
  if s.mc.mode = .online then
    if s.mc.running = .none then startDrain s else answer .busy s
  else answer .refusedMode s

/-- QUIESCE (R152). -/
def execQuiesce (s : State) : Host.Outcome State Fault Refusal := onFrame s quiesce

/-- A running drain is abandoned (R156). -/
def abandonDrain (s : State) : State :=
  match s.mc.mode with
  | .draining => endLong .quiesce .abandoned s
  | .offline => s
  | .online => s
  | .quiesced => s

/-- The act of RESUME (R156). -/
def resume (s : State) : State :=
  if s.mc.mode = .draining ∨ s.mc.mode = .quiesced then comeOnline (abandonDrain (answer .done s))
  else answer .refusedMode s

/-- RESUME (R156). -/
def execResume (s : State) : Host.Outcome State Fault Refusal := onFrame s resume

/-- The start of a FLUSH: every GATHERING entry closes, and the wait set is every entry not FREE after that (R67). -/
def startFlush (s : State) : State :=
  let s := closeWhere .flush (fun _ => true) (answer .started s)
  judgeStarvation (startLong (.flush (entrySet s.lat (fun _ => true)) false) s)

/-- The act of FLUSH (R67). -/
def flush (s : State) : State :=
  if s.mc.mode = .online then
    if s.mc.running = .none then startFlush s else answer .busy s
  else answer .refusedMode s

/-- FLUSH (R67). -/
def execFlush (s : State) : Host.Outcome State Fault Refusal := onFrame s flush

/-- Whether a prepared request stands on an ORPHANED slot. -/
def onOrphan (m : Mp) (r : MemoryRequest) : Bool := slotOrphaned (m.slots.get (memoryRequestSlot r))

/-- Every ORPHANED slot becomes FREE, its unsent request is withdrawn, and the stall mark is cleared if there was one (R128). -/
def reclaim (s : State) : State :=
  { s with mp := { s.mp with
      slots := s.mp.slots.map (fun x => if slotOrphaned x then .free else x),
      sendOrder := s.mp.sendOrder.filter (fun r => !onOrphan s.mp r),
      stallMark := s.mp.stallMark && !s.mp.slots.cells.any slotOrphaned } }

/-- The act of RECLAIM_SLOTS (R128). -/
def reclaimSlots (s : State) : State :=
  if s.mc.mode = .online then answer .refusedMode s
  else answerWith .done (.reclaimed (s.mp.slots.cells.countP slotOrphaned)) (judgeStarvation (reclaim s))

/-- RECLAIM_SLOTS (R128). -/
def execReclaimSlots (s : State) : Host.Outcome State Fault Refusal := onFrame s reclaimSlots

end Sys2Proof.Machine
end

