-- ==== Sys2Proof/Machine/Ordering.lean ====
section
/-! DEFINITION. The events of the Ordering Unit that follow others: SUPPRESSION_DISCARD and FLUSH_COMPLETE. -/

namespace Sys2Proof.Machine

/-- Removes an entry from the Issue Queue (R19). -/
def unqueue (i : Fin 32) (s : State) : State :=
  { s with lat := { s.lat with issueQueue := s.lat.issueQueue.filter (fun j => j != i) } }

/-- Discards the suppressed barrier entry `e` at index `i` (R60). -/
def discardEntry (i : Fin 32) (rule : Fin 8) (s : State) : State := endEntry i (.lost (.suppressed rule)) (unqueue i s)

/-- The barrier of the entry at an index, when the entry still waits in CLOSED and is ready for its discard (R60). -/
def suppressedBarrier (l : Lat) (i : Fin 32) : Option Barrier :=
  match l.entries.get i with
  | some e => if e.state = .closed ∧ isSuppressed e = true then e.barrier else none
  | none => none

/-- The discard of the next barrier entry that awaits it, with the judgement of the head and the drain test that its end brings
(R60, R136, R153). -/
def discardNext (s : State) : State :=
  match s.ord.discards with
  | [] => s
  | i :: rest =>
    let s := { s with ord := { s.ord with discards := rest } }
    match suppressedBarrier s.lat i with
    | some b => judgeStarvation (testDrain (judgeHead (discardEntry i b.rule s)))
    | none => s

/-- SUPPRESSION_DISCARD (R60). -/
def execSuppressionDiscard (s : State) : Host.Outcome State Fault Refusal := whenRunning s discardNext

/-- FLUSH_COMPLETE (R68). -/
def execFlushComplete (s : State) : Host.Outcome State Fault Refusal := whenRunning s completeFlush

end Sys2Proof.Machine
end

