-- ==== Sys2Proof/Machine/Reports.lean ====
section
/-! DEFINITION. The management commands that report and configure: items, status, flags, counters, slots, notices, and the frames that
carry no command. -/

namespace Sys2Proof.Machine

/-! ## Items (R170, R171) -/

/-- The 5-byte value of an item (R178). -/
def itemValue (item : Item) (s : State) : BitVec 40 :=
  match item with
  | .gatherTimeout => s.mli.items.gatherTimeout.setWidth 40
  | .memoryTimeout => s.mli.items.memoryTimeout.setWidth 40
  | .sweepInterval => s.mli.items.sweepInterval.setWidth 40
  | .sweepUrgentLevel => s.mli.items.sweepUrgentLevel.setWidth 40
  | .noticeEnables => s.nu.enables.setWidth 40
  | .partIdent => Config.partIdent

/-- The answer of GET_ITEM (R170). -/
def getItem (code : Byte) (s : State) : State :=
  match itemArgument code with
  | some item => answerWith .done (.item (itemValue item s)) s
  | none => answer .refusedArgument s

/-- GET_ITEM (R170). -/
def execGetItem (code : Byte) (s : State) : Host.Outcome State Fault Refusal := onFrame s (getItem code)

/-- Gives a value to an item, with the judgement that follows in the same act (R171, R109, R162). -/
def giveItem (item : Item) (value : BitVec 32) (s : State) : State :=
  match item with
  | .gatherTimeout => { s with mli := { s.mli with items := { s.mli.items with gatherTimeout := value } } }
  | .memoryTimeout => { s with mli := { s.mli with items := { s.mli.items with memoryTimeout := value } } }
  | .sweepInterval => { s with mli := { s.mli with items := { s.mli.items with sweepInterval := value } } }
  | .sweepUrgentLevel =>
    settleSweep { s with mli := { s.mli with items := { s.mli.items with sweepUrgentLevel := value } } }
  | .noticeEnables => { s with nu := judgeLine { s.nu with enables := value.setWidth 11 } }
  | .partIdent => s

/-- The act of SET_ITEM (R171). -/
def setItem (code : Byte) (value : BitVec 32) (s : State) : State :=
  match itemArgument code with
  | some item => if itemAccepts item value then answer .done (giveItem item value s) else answer .refusedArgument s
  | none => answer .refusedArgument s

/-- SET_ITEM (R171). -/
def execSetItem (code : Byte) (value : BitVec 32) (s : State) : Host.Outcome State Fault Refusal :=
  onFrame s (setItem code value)

/-! ## Status, flags, counters, slots -/

/-- The running long command, as READ_STATUS shows it (R172). -/
def runningCommand : Running → Option LongCommand
  | .none => none
  | .quiesce => some .quiesce
  | .flush _ _ => some .flush

/-- The number of slots that satisfy `p`. -/
def slotCount (p : Slot → Bool) (m : Mp) : Nat := m.slots.cells.countP p

/-- The status record at this moment (R172). -/
def statusRecord (s : State) : StatusRecord :=
  { mode := s.mc.mode, running := runningCommand s.mc.running, last := s.mc.last,
    noticesHeld := s.nu.queue.length, entriesInUse := entriesInUse s.lat,
    slotsBusy := slotCount slotBusy s.mp, slotsOrphaned := slotCount slotOrphaned s.mp,
    aheadCount := s.rsw.ahead.length, brokenFrame := s.mli.brokenFrame, partIdent := Config.partIdent }

/-- Sets or clears the broken-frame mark (R167, R172). -/
def markFrame (broken : Bool) (s : State) : State := { s with mli := { s.mli with brokenFrame := broken } }

/-- READ_STATUS (R172): the mark is shown as it stood, then cleared. -/
def execReadStatus (s : State) : Host.Outcome State Fault Refusal :=
  onFrame s (fun s => answerWith .done (.status (statusRecord s)) (markFrame false s))

/-- READ_FLAGS (R173). -/
def execReadFlags (s : State) : Host.Outcome State Fault Refusal :=
  onFrame s (fun s => answerWith .done (.flags s.ord.flags) s)

/-- READ_COUNTERS (R164). -/
def execReadCounters (s : State) : Host.Outcome State Fault Refusal :=
  onFrame s (fun s => answerWith .done (.counters s.nu.counters) s)

/-- Zeroes the nine counters (R164). -/
def zeroCounters (s : State) : State := { s with nu := { s.nu with counters := Counters.zero } }

/-- CLEAR_COUNTERS (R164). -/
def execClearCounters (s : State) : Host.Outcome State Fault Refusal :=
  onFrame s (fun s => answer .done (zeroCounters s))

/-- What READ_SLOTS shows of a slot: no owner, deadline or sent mark (R129). -/
def slotView : Slot → SlotView
  | .free => .free
  | .busy owner line _ _ => .busy (ownerPurpose owner) line
  | .orphaned purpose line _ => .orphaned purpose line

/-- READ_SLOTS (R129). -/
def execReadSlots (s : State) : Host.Outcome State Fault Refusal :=
  onFrame s (fun s => answerWith .done (.slots (s.mp.slots.map slotView)) s)

/-! ## Notices (R161) -/

/-- The answer of TAKE_NOTICE; its record leaves the queue at the end of the whole frame (R161). -/
def takeNotice (s : State) : State :=
  match s.nu.queue with
  | [] => answer .empty s
  | n :: _ => answerFrame { status := .done, fields := .notice n } true s

/-- TAKE_NOTICE (R161). -/
def execTakeNotice (s : State) : Host.Outcome State Fault Refusal := onFrame s takeNotice

/-- The frame receiver waits for the next frame. -/
def endFrame (s : State) : State := setFrame .waiting s

/-- The oldest record leaves the Notice Queue (R161, R162). -/
def removeNotice (s : State) : State := { s with nu := judgeLine { s.nu with queue := s.nu.queue.tail } }

/-- The end of a whole TAKE_NOTICE frame that was answered DONE (R161). Any other frame has no record to remove. -/
def noticeTaken (s : State) : State :=
  match s.mli.frame with
  | .answering _ true => endFrame (removeNotice s)
  | .answering _ false => s
  | .waiting => s
  | .ignoring => s

/-- NOTICE_REMOVED (R161). -/
def execNoticeRemoved (s : State) : Host.Outcome State Fault Refusal := whenRunning s noticeTaken

/-! ## Frames that carry no command (R166, R167) -/

/-- UNKNOWN_COMMAND (R166). The bridge answers every unknown code alike. -/
def execUnknownCommand (_code : Byte) (s : State) : Host.Outcome State Fault Refusal :=
  onFrame s (answer .unknownCommand)

/-- A frame is broken (R167). A chip-select assertion without a whole byte is no frame, and an answer can be cut only until it has been
shifted out whole. -/
def frameBroken (cut : FrameCut) (s : State) : State :=
  match cut, s.mli.frame with
  | .inRequest [], _ => s
  | .inRequest (_ :: _), _ => endFrame (markFrame true s)
  | .inAnswer clocked, .answering out _ => if clocked < out.length then endFrame (markFrame true s) else s
  | .inAnswer _, .waiting => s
  | .inAnswer _, .ignoring => s
  | .byReset, _ => s

/-- A cut while the receiver ignores frames sets no mark: the reset cuts a frame within its request part, and chip-select is
released within it (R175). -/
def ignoredCut (cut : FrameCut) (s : State) : State :=
  match cut with
  | .byReset => setFrame .ignoring s
  | .inRequest _ => if s.mli.frame = .ignoring then endFrame s else s
  | .inAnswer _ => s

/-- BROKEN_FRAME (R167, R175). -/
def execBrokenFrame (cut : FrameCut) (s : State) : Host.Outcome State Fault Refusal :=
  .next (if ignoresFrame s then ignoredCut cut s else frameBroken cut s)

end Sys2Proof.Machine
end

