-- ==== Sys2Proof/Machine/Take.lean ====
section
/-! DEFINITION. The acts of the take (R142): merging and opening, the release take, opening a read context, the SYNC. -/

namespace Sys2Proof.Machine

/-! ## Opening and merging (R5 to R7) -/

/-- The gather deadline started now, none when GATHER_TIMEOUT is zero (R11). -/
def gatherDeadlineFrom (s : State) : Option Nat :=
  if s.mli.items.gatherTimeout = 0#32 then none else some (s.now + s.mli.items.gatherTimeout.toNat)

/-- The held list of a new entry: the WRT index of an AOC write, else empty (R6). -/
def heldOf (w : Option (Fin 16)) : List (Fin 16) := w.toList

/-- The fields of an entry opened as GATHERING by a write piece (R6). -/
def openedEntry (s : State) (q : Request) (w : Option (Fin 16)) (p : Span) : Entry :=
  { state := .gathering, line := p.line, cells := writeSpan blankCells p q.data,
    contributors := (FinSet.empty 16).insert q.requester, held := heldOf w, closeNumber := none, barrier := none,
    deadline := gatherDeadlineFrom s, lastMerge := s.now, fill := none }

/-- An entry after a write piece has been merged into it (R7). -/
def mergedEntry (s : State) (q : Request) (w : Option (Fin 16)) (p : Span) (e : Entry) : Entry :=
  { e with cells := writeSpan e.cells p q.data, contributors := e.contributors.insert q.requester,
           held := e.held ++ heldOf w, deadline := gatherDeadlineFrom s, lastMerge := s.now }

/-- Puts an entry at an index. -/
def putEntry (i : Fin 32) (e : Entry) (s : State) : State :=
  { s with lat := { s.lat with entries := s.lat.entries.set i (some e) } }

/-- Closes the entry for MASK_FULL when its byte set holds all 64 offsets (R13). -/
def closeIfFull (i : Fin 32) (e : Entry) (s : State) : State :=
  if cellsFull e.cells then closeEntry .maskFull i s else s

/-- Merges a piece into the entry at index `i` (R7, R13). -/
def mergePiece (q : Request) (w : Option (Fin 16)) (p : Span) (i : Fin 32) (s : State) : State :=
  match s.lat.entries.get i with
  | some e =>
    let e := mergedEntry s q w p e
    closeIfFull i e (putEntry i e (countOne .merges s))
  | none => s

/-- Opens the lowest-index FREE entry for a piece (R5, R6, R13). -/
def openPiece (q : Request) (w : Option (Fin 16)) (p : Span) (s : State) : State :=
  match lowestFreeEntry s.lat with
  | some i =>
    let e := openedEntry s q w p
    closeIfFull i e (putEntry i e s)
  | none => s

/-- Merges or opens one piece of a write that matches no release rule (R4 to R7). -/
def placePiece (q : Request) (w : Option (Fin 16)) (s : State) (p : Span) : State :=
  match mergeTarget s.lat q.aoc p with
  | some i => mergePiece q w p i s
  | none => openPiece q w p s

/-! ## The release take (R54 to R58) -/

/-- The first step: closes the GATHERING entries of the write's own lines, lower line first (R54). -/
def releaseOwnLines (q : Request) (s : State) : State :=
  (requestSpans q).foldl
    (fun s p =>
      match gatheringOf s.lat p.line with
      | some i => closeEntry .release i s
      | none => s) s

/-- Whether an entry is in the scope of a release write (R55, R56). -/
def inScope (scope : Scope) (r : Requester) (e : Entry) : Bool :=
  match scope with
  | .own => e.contributors.has r
  | .all => true

/-- An entry of a release write, opened directly in CLOSED with its barrier (R18, R57). -/
def releaseEntry (s : State) (q : Request) (w : Option (Fin 16)) (p : Span) (b : Barrier) : Entry :=
  { openedEntry s q w p with
    state := .closed, closeNumber := some (newCloseNumber s.lat), barrier := some b, deadline := none }

/-- Opens the lowest-index FREE entry in CLOSED for one release piece, at the tail of the Issue Queue (R18). -/
def openRelease (q : Request) (w : Option (Fin 16)) (b : Barrier) (s : State) (p : Span) : State :=
  match lowestFreeEntry s.lat with
  | some i =>
    { s with lat := { s.lat with
        entries := s.lat.entries.set i (some (releaseEntry s q w p b)),
        issueQueue := s.lat.issueQueue ++ [i] } }
  | none => s

/-- The five steps of a release take under rule `r` at index `k` (R54 to R58). -/
def releaseTake (q : Request) (w : Option (Fin 16)) (k : Fin 8) (r : ReleaseRule) (s : State) : State :=
  let s := releaseOwnLines q s
  let s := closeWhere .release (inScope r.scope q.requester) s
  let b : Barrier :=
    { predecessors := entrySet s.lat (inScope r.scope q.requester), failed := false, suppress := r.suppress, rule := k }
  let s := (requestSpans q).foldl (openRelease q w b) s
  if r.note then post (.releaseNote k q.requester q.address (q.data.take (min 8 q.length.val))) s else s

/-! ## WRITE, READ and SYNC (R142) -/

/-- The FREE WRT record with the lowest index (R144). -/
def lowestFreeWrt (u : Rqp) : Option (Fin 16) := u.wrt.findLowest Option.isNone

/-- The FREE read context with the lowest index (R71). -/
def lowestFreeContext (u : Rdp) : Option (Fin 16) := u.contexts.findLowest Option.isNone

/-- The pieces of a WRITE go into the LAT, under a release rule or not (R142). -/
def placeWrite (q : Request) (w : Option (Fin 16)) (s : State) : State :=
  match ruleFor s.ord q with
  | some k =>
    match s.ord.rules.get k with
    | some r => releaseTake q w k r s
    | none => s
  | none => (requestSpans q).foldl (placePiece q w) s

/-- The take of a posted WRITE (R142). -/
def takePosted (q : Request) (s : State) : State := respond q.requester q.tag .ok [] (placeWrite q none s)

/-- Opens the WRT record of an AOC WRITE (R144). -/
def openWrt (q : Request) (w : Fin 16) (s : State) : State :=
  { s with rqp := { s.rqp with
      wrt := s.rqp.wrt.set w
        (some { requester := q.requester, tag := q.tag, outstanding := (requestSpans q).length, worst := .ok }) } }

/-- The take of an AOC WRITE with WRT record `w` (R142). -/
def takeAoc (q : Request) (w : Fin 16) (s : State) : State :=
  placeWrite q (some w) (holdTag q.requester q.tag (openWrt q w s))

/-- An age newer than that of every ACTIVE context (R71). -/
def newAge (u : Rdp) : Nat := u.contexts.cells.foldl (fun m c => max m ((c.map Context.age).getD 0)) 0 + 1

/-- The context that a READ opens, before its pieces are resolved (R71). -/
def openedContext (u : Rdp) (q : Request) : Context :=
  { requester := q.requester, tag := q.tag, address := q.address, length := q.length.val, age := newAge u,
    pieces := (requestSpans q).map (fun p => { span := p, state := .waiting }),
    buffer := List.replicate q.length.val none, worst := .ok }

/-- Resolves the pieces of a new context in ascending address order, the piece at the head of the list having index `i`
(R72). -/
def resolveAll (c : Fin 16) : Nat → List Span → State → State
  | _, [], s => s
  | i, p :: rest, s => resolveAll c (i + 1) rest (resolvePiece c i p s).1

/-- The take of a READ in context `c` (R71, R142). -/
def takeRead (q : Request) (c : Fin 16) (s : State) : State :=
  let s := holdTag q.requester q.tag s
  let s := { s with rdp := { s.rdp with contexts := s.rdp.contexts.set c (some (openedContext s.rdp q)) } }
  resolveAll c 0 (requestSpans q) s

/-- The take of a SYNC: served when the requester's record is IDLE, else answered BUSY (R63, R64). A wait set that is empty at
the take lists the SYNC for its response (R65). -/
def takeSync (q : Request) (s : State) : State :=
  match s.ord.sync.get q.requester with
  | some _ => respond q.requester q.tag .busy [] s
  | none =>
    let s := holdTag q.requester q.tag s
    let s := closeWhere .sync (fun e => e.contributors.has q.requester) s
    let waitSet := entrySet s.lat (fun e => e.contributors.has q.requester)
    { s with ord := { s.ord with
        sync := s.ord.sync.set q.requester (some { tag := q.tag, waitSet := waitSet }),
        syncReady := if waitSet.isEmpty then s.ord.syncReady ++ [q.requester] else s.ord.syncReady } }

/-- The take of a refused head (R138, R139, R145). -/
def takeRefused (q : Request) (status : ResponseStatus) (cause : RefusalCause) (s : State) : State :=
  let address := if q.kind = .sync ∨ cause = .badKind then none else some q.address
  respond q.requester q.tag status [] (post (.requestRefused q.requester q.tag status cause address) s)

/-- The resource step and the take of a head that has passed the earlier steps; none when the head waits (R141, R142). -/
def takeServed (q : Request) (s : State) : Option State :=
  match q.kind with
  | .read =>
    match lowestFreeContext s.rdp with
    | some c => some (takeRead q c s)
    | none => none
  | .write =>
    if freeEntries s.lat < entriesNeeded s q then none
    else if q.aoc then
      match lowestFreeWrt s.rqp with
      | some w => some (takeAoc q w s)
      | none => none
    else some (takePosted q s)
  | .sync => some (takeSync q s)
  | .unknown => none

/-- The head leaves the Intake Queue, which makes room for the link (R135, R142), and the new head is judged (R136). -/
def leaveIntake (s : State) : State :=
  judgeHead (acceptFromLink { s with rqp := { s.rqp with intake := s.rqp.intake.tail } })

/-- Judges the head and takes it if it can be taken (R136 to R142). -/
def takeHead (q : Request) (s : State) : State :=
  match judge s q with
  | .stays => s
  | .offline => leaveIntake (respond q.requester q.tag .offline [] s)
  | .refused status cause => leaveIntake (takeRefused q status cause s)
  | .passes =>
    let s := if q.kind = .write then resourceCloses q s else s
    match takeServed q s with
    | some s => leaveIntake s
    | none => s

end Sys2Proof.Machine
end

