-- ==== Sys2Proof/Machine/RequesterPort.lean ====
section
/-! DEFINITION. The commands of the Requester Port: REQUEST_ARRIVAL, TAKE, READ_RESPONSE, SYNC_RESPONSE. -/

namespace Sys2Proof.Machine

/-- A request arriving on the link: it joins the tail of the Intake Queue, or waits on the link until there is room (R135). Arriving
into an empty queue makes it the head, which is judged (R136). -/
def arrive (q : Request) (s : State) : State :=
  let wasEmpty := s.rqp.intake.isEmpty
  let s := acceptFromLink { s with rqp := { s.rqp with link := s.rqp.link ++ [q] } }
  if wasEmpty then judgeStarvation (judgeHead s) else s

/-- REQUEST_ARRIVAL (R135). While the power-on reset is held the link withholds acceptance (R158). -/
def execRequestArrival (q : Request) (s : State) : Host.Outcome State Fault Refusal :=
  if s.held then .next { s with rqp := { s.rqp with link := s.rqp.link ++ [q] } }
  else .next (arrive q s)

/-- One take at a moment (R136, R142). -/
def takeAt (time : Nat) (s : State) : State :=
  let s := acceptFromLink (atTime time s)
  match s.rqp.intake with
  | [] => s
  | q :: _ => judgeStarvation (takeHead q s)

/-- TAKE (R142). -/
def execTake (time : Nat) (s : State) : Host.Outcome State Fault Refusal := whenRunning s (takeAt time)

/-- The bytes of an assembly buffer, in address order (R84). -/
def bufferBytes (buffer : List (Option Byte)) : List Byte := buffer.filterMap id

/-- Answers a context whose pieces are all DONE and frees it (R84). -/
def answerContext (c : Fin 16) (x : Context) (s : State) : State :=
  respondTaken x.requester x.tag (readResponseStatus x.worst) (bufferBytes x.buffer)
    { s with rdp := { s.rdp with contexts := s.rdp.contexts.set c none } }

/-- The response that the oldest completed context awaits (R77, R84), with the judgement and the drain test that a freed context
brings (R136, R153). -/
def sendReadResponse (s : State) : State :=
  match s.rdp.ready with
  | [] => s
  | c :: rest =>
    let s := { s with rdp := { s.rdp with ready := rest } }
    match s.rdp.contexts.get c with
    | some x => judgeStarvation (testDrain (judgeHead (answerContext c x s)))
    | none => s

/-- READ_RESPONSE (R84). -/
def execReadResponse (s : State) : Host.Outcome State Fault Refusal := whenRunning s sendReadResponse

/-- Answers the SYNC of requester `r` from its failure flag, which is cleared, and makes its record IDLE (R65). -/
def answerSync (r : Requester) (x : SyncRecord) (s : State) : State :=
  let status := if s.ord.flags.has r then .writeFailed else .ok
  let s := respondTaken r x.tag status [] s
  let s := clearFailureFlag r s
  { s with ord := { s.ord with sync := s.ord.sync.set r none } }

/-- The response that the next released SYNC awaits (R65), with the drain test (R153). -/
def sendSyncResponse (s : State) : State :=
  match s.ord.syncReady with
  | [] => s
  | r :: rest =>
    let s := { s with ord := { s.ord with syncReady := rest } }
    match s.ord.sync.get r with
    | some x => testDrain (answerSync r x s)
    | none => s

/-- SYNC_RESPONSE (R65). -/
def execSyncResponse (s : State) : Host.Outcome State Fault Refusal := whenRunning s sendSyncResponse

end Sys2Proof.Machine
end

