-- ==== Sys2Proof/Machine/Resets.lean ====
section
/-! DEFINITION. The warm reset and the power-on reset. -/

namespace Sys2Proof.Machine

/-! ## The warm reset (R157) -/

/-- A running long command ends ABORTED (R151, R157). -/
def abortLong (s : State) : State :=
  match s.mc.running with
  | .none => s
  | .quiesce => endLong .quiesce .aborted s
  | .flush _ _ => endLong .flush .aborted s

/-- An ABORTED response (R146). -/
def abortedResponse (r : Requester) (tag : Tag) : Response :=
  { requester := r, tag := tag, status := .aborted, data := [] }

/-- The requesters and tags that wait, in the order of R146: contexts, WRT records, SYNCs, then the Intake Queue. -/
def waitingRequests (s : State) : List (Requester × Tag) :=
  s.rdp.contexts.cells.filterMap (fun c => c.map (fun x => (x.requester, x.tag))) ++
  s.rqp.wrt.cells.filterMap (fun w => w.map (fun x => (x.requester, x.tag))) ++
  (List.finRange 16).filterMap (fun r => (s.ord.sync.get r).map (fun x => (r, x.tag))) ++
  s.rqp.intake.map (fun q => (q.requester, q.tag))

/-- Answers every waiting request with ABORTED (R146). -/
def abortResponses (s : State) : State :=
  { s with out := { s.out with
      responses := s.out.responses ++ (waitingRequests s).map (fun p => abortedResponse p.1 p.2) } }

/-- A slot after a warm reset (R130). -/
def slotAfterReset : Slot → Slot
  | .free => .free
  | .busy owner line sent _ => .orphaned (ownerPurpose owner) line sent
  | .orphaned purpose line sent => .orphaned purpose line sent

/-- What every block clears and keeps at a warm reset (R22, R48, R62, R66, R88, R99, R112, R130, R146, R148). -/
def clearTraffic (s : State) : State :=
  { s with
    rqp := { s.rqp with intake := [], tags := [], wrt := Table.fill 16 none },
    lat := Lat.reset,
    starvation := false,
    rdp := Rdp.reset,
    ord := { s.ord with
      sync := Table.fill 16 none, flags := FinSet.empty 16, syncReady := [], discards := [] },
    rsw := { s.rsw with ahead := s.rsw.ahead.filter (fun r => r.state == .written), engine := .idle },
    mp := { s.mp with slots := s.mp.slots.map slotAfterReset, turn := .write },
    mc := { s.mc with mode := .offline } }

/-- Whether the warm reset makes a slot ORPHANED, so that the stall is judged (R127). -/
def orphansSlot (s : State) : Bool := s.mp.slots.cells.any slotBusy

/-- The act of the warm reset: COMMAND_DONE, the ABORTED responses, the blocks' own parts, then the stall (R157). -/
def warmReset (s : State) : State :=
  let cleared := clearTraffic (abortResponses (abortLong s))
  if orphansSlot s then judgeStall cleared else cleared

/-- RESET_BRIDGE (R157): the answer is formed after the reset's act (R169). -/
def execResetBridge (s : State) : Host.Outcome State Fault Refusal := onFrame s (fun s => answer .done (warmReset s))

/-! ## The power-on reset (R158) -/

/-- The Management Link Interface after a power-on reset: a frame that the receiver already ignores stays one (R175). -/
def Mli.powerOn (u : Mli) : Mli := if u.frame = .ignoring then { Mli.reset with frame := .ignoring } else Mli.reset

/-- Every block at its power-on value, with the reset held or released. Requests offered on the link, the timebase and what has been
sent already are not the bridge's to clear (log entry 8). -/
def powerOnState (held : Bool) (s : State) : State :=
  { State.reset with
    rqp := { Rqp.reset with link := s.rqp.link }, mli := s.mli.powerOn, held := held, now := s.now, out := s.out,
    pending := s.pending }

/-- POWER_ON_RESET (R158): made at once and held until released. -/
def execPowerOnReset (s : State) : Host.Outcome State Fault Refusal := .next (powerOnState true s)

/-- RESET_RELEASED (R158). A reset that is not held has no release. -/
def execResetReleased (s : State) : Host.Outcome State Fault Refusal :=
  if s.held then .next (powerOnState false s) else .next s

end Sys2Proof.Machine
end

