-- ==== Sys2Proof/Machine/Tables.lean ====
section
/-! DEFINITION. The management commands over the Region Table and the Release Rule Table. -/

namespace Sys2Proof.Machine

/-- Whether a command that changes what traffic rests on is accepted: OFFLINE or QUIESCED (Table 8-2). -/
def atRest (m : Mode) : Bool :=
  match m with
  | .offline => true
  | .quiesced => true
  | .online => false
  | .draining => false

/-! ## Regions (R93 to R95) -/

/-- Whether a range shares a line with a present region (R93). -/
def overlapsRegion (base size : Nat) (r : Region) : Bool :=
  r.info.any (fun i => decide (base < i.base + i.size ∧ i.base < base + size))

/-- Whether the arguments of DEFINE_REGION name a range that may become present (R93). -/
def rangeAllowed (u : Rsw) (base size : Nat) : Bool :=
  decide (base % Config.regionUnit = 0 ∧ Config.regionUnit ≤ size ∧ base + size ≤ Config.spaceBytes) &&
    u.regions.cells.all (fun r => !overlapsRegion base size r)

/-- The record that DEFINE_REGION makes: `sweep` chooses mode SWEEP (R93). -/
def definedRegion (base size : Nat) (sweep : Bool) (pattern : Table Byte 8) : Region :=
  let info : RegionInfo := { base := base, size := size, pattern := pattern, faults := 0#16 }
  if sweep then .sweeping info base else .ready info

/-- Puts a record into the Region Table. -/
def putRegion (k : Fin 8) (r : Region) (s : State) : State :=
  { s with rsw := { s.rsw with regions := s.rsw.regions.set k r } }

/-- The engine's evaluation after a definition with mode SWEEP: made in ONLINE while it is IDLE, READY or BLOCKED (R103). -/
def evaluateAfterDefine (s : State) : State :=
  if s.mc.mode = .online then
    match s.rsw.engine with
    | .idle => evaluate s
    | .ready _ _ => evaluate s
    | .blocked _ _ => evaluate s
    | .pacing _ => s
    | .writing _ _ => s
  else s

/-- The act of DEFINE_REGION; `size` counts 64 KiB units (R93, R178). -/
def defineRegion (index : Byte) (base : BitVec 40) (size : BitVec 32) (mode : Byte) (pattern : Table Byte 8) (s : State) :
    State :=
  let bytes := size.toNat * Config.regionUnit
  match indexArgument index, defineModeArgument mode with
  | some k, some sweep =>
    if s.rsw.regions.get k = .absent ∧ rangeAllowed s.rsw base.toNat bytes = true then
      let s := putRegion k (definedRegion base.toNat bytes sweep pattern) s
      answer .done (if sweep then settleSweep (evaluateAfterDefine s) else s)
    else answer .refusedArgument s
  | _, _ => answer .refusedArgument s

/-- DEFINE_REGION (R93). -/
def execDefineRegion (index : Byte) (base : BitVec 40) (size : BitVec 32) (mode : Byte) (pattern : Table Byte 8) (s : State) :
    Host.Outcome State Fault Refusal :=
  onFrame s (defineRegion index base size mode pattern)

/-- Removes a region record and every Ahead List record that names it (R94). A record that is ABSENT is left as it is. -/
def removeRegion (k : Fin 8) (s : State) : State :=
  if s.rsw.regions.get k = .absent then s
  else
    judgeStarvation
      { s with rsw := { s.rsw with
          regions := s.rsw.regions.set k .absent, ahead := s.rsw.ahead.filter (fun r => r.region != k) } }

/-- The act of RETIRE_REGION: the mode first, then the index (R94). -/
def retireRegion (index : Byte) (s : State) : State :=
  if atRest s.mc.mode then
    match indexArgument index with
    | some k => answer .done (removeRegion k s)
    | none => answer .refusedArgument s
  else answer .refusedMode s

/-- RETIRE_REGION (R94). -/
def execRetireRegion (index : Byte) (s : State) : Host.Outcome State Fault Refusal := onFrame s (retireRegion index)

/-- The answer of READ_REGION (R95). -/
def readRegion (index : Byte) (s : State) : State :=
  match indexArgument index with
  | some k => answerWith .done (.region (s.rsw.regions.get k) (aheadCountOf s.rsw k)) s
  | none => answer .refusedArgument s

/-- READ_REGION (R95). -/
def execReadRegion (index : Byte) (s : State) : Host.Outcome State Fault Refusal := onFrame s (readRegion index)

/-! ## Release rules (R50, R51) -/

/-- Puts a record into the Release Rule Table. -/
def putRule (k : Fin 8) (r : Option ReleaseRule) (s : State) : State :=
  { s with ord := { s.ord with rules := s.ord.rules.set k r } }

/-- The act of SET_RULE: the mode first, then the arguments (R50). -/
def setRule (index : Byte) (base limit : BitVec 40) (requester scope suppress note : Byte) (s : State) : State :=
  if atRest s.mc.mode then
    match indexArgument index, ruleArguments base limit requester scope suppress note with
    | some k, some r => answer .done (putRule k (some r) s)
    | _, _ => answer .refusedArgument s
  else answer .refusedMode s

/-- SET_RULE (R50). -/
def execSetRule (index : Byte) (base limit : BitVec 40) (requester scope suppress note : Byte) (s : State) :
    Host.Outcome State Fault Refusal :=
  onFrame s (setRule index base limit requester scope suppress note)

/-- The act of CLEAR_RULE: the mode first, then the index (R51). -/
def clearRule (index : Byte) (s : State) : State :=
  if atRest s.mc.mode then
    match indexArgument index with
    | some k => answer .done (putRule k none s)
    | none => answer .refusedArgument s
  else answer .refusedMode s

/-- CLEAR_RULE (R51). -/
def execClearRule (index : Byte) (s : State) : Host.Outcome State Fault Refusal := onFrame s (clearRule index)

/-- The answer of READ_RULE (R51). -/
def readRule (index : Byte) (s : State) : State :=
  match indexArgument index with
  | some k => answerWith .done (.rule (s.ord.rules.get k)) s
  | none => answer .refusedArgument s

/-- READ_RULE (R51). -/
def execReadRule (index : Byte) (s : State) : Host.Outcome State Fault Refusal := onFrame s (readRule index)

end Sys2Proof.Machine
end

