-- ==== Sys2Proof/Machine/Timers.lean ====
section
/-! DEFINITION. The events of running timers: GATHER_DEADLINE and PACING_END. A SLOT_DEADLINE stands with the Memory Port. -/

namespace Sys2Proof.Machine

/-- The gather deadline of the entry at an index, while it is GATHERING (R11). -/
def gatherDeadlineOf (l : Lat) (i : Fin 32) : Option Nat :=
  match l.entries.get i with
  | some e => if isGathering e then e.deadline else none
  | none => none

/-- An entry's gather deadline passes: the entry closes for IDLE (R12). An entry without a running deadline has none to pass. -/
def gatherExpires (i : Fin 32) (s : State) : State :=
  match gatherDeadlineOf s.lat i with
  | some deadline => judgeStarvation (closeEntry .idle i (atTime deadline s))
  | none => s

/-- GATHER_DEADLINE (R12). -/
def execGatherDeadline (i : Fin 32) (s : State) : Host.Outcome State Fault Refusal := whenRunning s (gatherExpires i)

/-- The end of the pacing passes: the engine evaluates (R108). An engine that does not pace has no pacing end. -/
def pacingEnds (s : State) : State :=
  match s.rsw.engine with
  | .pacing t => settleSweep (evaluate (atTime t s))
  | .idle => s
  | .ready _ _ => s
  | .blocked _ _ => s
  | .writing _ _ => s

/-- PACING_END (R108). -/
def execPacingEnd (s : State) : Host.Outcome State Fault Refusal := whenRunning s pacingEnds

end Sys2Proof.Machine
end

