-- ==== Sys2Proof/Machine/Dispatch.lean ====
section
/-! DEFINITION. The dispatch of every command to its meaning. -/

namespace Sys2Proof.Machine

def exec (i : Instr) (s : State) : Host.Outcome State Fault Refusal :=
  match i with
  | .requestArrival q => Sys2Proof.Machine.execRequestArrival q s
  | .take time => Sys2Proof.Machine.execTake time s
  | .grant time => Sys2Proof.Machine.execGrant time s
  | .memoryLinkAccept => Sys2Proof.Machine.execMemoryLinkAccept s
  | .memoryResponse time r => Sys2Proof.Machine.execMemoryResponse time r s
  | .slotDeadline slot => Sys2Proof.Machine.execSlotDeadline slot s
  | .gatherDeadline entry => Sys2Proof.Machine.execGatherDeadline entry s
  | .pacingEnd => Sys2Proof.Machine.execPacingEnd s
  | .suppressionDiscard => Sys2Proof.Machine.execSuppressionDiscard s
  | .readResponse => Sys2Proof.Machine.execReadResponse s
  | .syncResponse => Sys2Proof.Machine.execSyncResponse s
  | .flushComplete => Sys2Proof.Machine.execFlushComplete s
  | .getItem item => Sys2Proof.Machine.execGetItem item s
  | .setItem item value => Sys2Proof.Machine.execSetItem item value s
  | .readStatus => Sys2Proof.Machine.execReadStatus s
  | .readFlags => Sys2Proof.Machine.execReadFlags s
  | .readCounters => Sys2Proof.Machine.execReadCounters s
  | .clearCounters => Sys2Proof.Machine.execClearCounters s
  | .readSlots => Sys2Proof.Machine.execReadSlots s
  | .defineRegion index base size mode pattern => Sys2Proof.Machine.execDefineRegion index base size mode pattern s
  | .retireRegion index => Sys2Proof.Machine.execRetireRegion index s
  | .readRegion index => Sys2Proof.Machine.execReadRegion index s
  | .setRule index base limit requester scope suppress note => Sys2Proof.Machine.execSetRule index base limit requester scope suppress note s
  | .clearRule index => Sys2Proof.Machine.execClearRule index s
  | .readRule index => Sys2Proof.Machine.execReadRule index s
  | .goOnline => Sys2Proof.Machine.execGoOnline s
  | .quiesce => Sys2Proof.Machine.execQuiesce s
  | .resume => Sys2Proof.Machine.execResume s
  | .flush => Sys2Proof.Machine.execFlush s
  | .resetBridge => Sys2Proof.Machine.execResetBridge s
  | .reclaimSlots => Sys2Proof.Machine.execReclaimSlots s
  | .takeNotice => Sys2Proof.Machine.execTakeNotice s
  | .noticeRemoved => Sys2Proof.Machine.execNoticeRemoved s
  | .unknownCommand code => Sys2Proof.Machine.execUnknownCommand code s
  | .brokenFrame cut => Sys2Proof.Machine.execBrokenFrame cut s
  | .powerOnReset => Sys2Proof.Machine.execPowerOnReset s
  | .resetReleased => Sys2Proof.Machine.execResetReleased s

end Sys2Proof.Machine
end

