-- ==== Sys2Proof/WellFormed.lean ====
section
/-! DEFINITION. Which terms of the syntax are commands that the links can carry. -/

namespace Sys2Proof

/-- A WRITE carries as many data bytes as its length field gives, a READ or SYNC carries none (R176). The kind that
names nothing is left open: its data is dropped unread. -/
def Request.wellFormed (q : Request) : Bool :=
  match q.kind with
  | .write => decide (q.data.length = q.length.val)
  | .read => q.data.isEmpty
  | .sync => q.data.isEmpty
  | .unknown => true

/-- A cut within the request part leaves at least one whole byte and fewer than the request part has (R167). -/
def FrameCut.wellFormed (c : FrameCut) : Bool :=
  match c with
  | .inRequest [] => false
  | .inRequest (code :: rest) => decide (rest.length + 1 < requestLength code)
  | .inAnswer _ => true
  | .byReset => true

/-- The commands that can arise on the links. -/
def Instr.wellFormed (i : Instr) : Bool :=
  match i with
  | .requestArrival q => q.wellFormed
  | .unknownCommand code => !commandCodes.contains code
  | .brokenFrame cut => cut.wellFormed
  | .take _ => true
  | .grant _ => true
  | .memoryLinkAccept => true
  | .memoryResponse _ _ => true
  | .slotDeadline _ => true
  | .gatherDeadline _ => true
  | .pacingEnd => true
  | .suppressionDiscard => true
  | .readResponse => true
  | .syncResponse => true
  | .flushComplete => true
  | .getItem _ => true
  | .setItem _ _ => true
  | .readStatus => true
  | .readFlags => true
  | .readCounters => true
  | .clearCounters => true
  | .readSlots => true
  | .defineRegion _ _ _ _ _ => true
  | .retireRegion _ => true
  | .readRegion _ => true
  | .setRule _ _ _ _ _ _ _ => true
  | .clearRule _ => true
  | .readRule _ => true
  | .goOnline => true
  | .quiesce => true
  | .resume => true
  | .flush => true
  | .resetBridge => true
  | .reclaimSlots => true
  | .takeNotice => true
  | .noticeRemoved => true
  | .powerOnReset => true
  | .resetReleased => true

end Sys2Proof
end

