-- ==== Sys2Proof/Safety.lean ====
section
/-! DEFINITION. What a safe state is: the laws of the spec that every step keeps, in the terms the statements use, and what
an evaluation of the sweep engine and the end of an entry do, as the rules list it. -/

namespace Sys2Proof.Machine

/-! ## Line claims (R117) -/

/-- No two slots that are BUSY or ORPHANED hold the same line (R117). -/
def ClaimsDistinct (m : Mp) : Prop :=
  ∀ i j : Fin 16, i ≠ j → slotClaim (m.slots.get i) = slotClaim (m.slots.get j) → slotClaim (m.slots.get i) = none

/-- A READY engine's target line is unclaimed (Table 5-4). -/
def readyTargetFree (s : State) : Bool :=
  match s.rsw.engine with
  | .ready _ line => !claimed s.mp line
  | .idle => true
  | .pacing _ => true
  | .blocked _ _ => true
  | .writing _ _ => true

/-- The claim law. -/
def ClaimLaw (s : State) : Prop := ClaimsDistinct s.mp ∧ readyTargetFree s = true

/-! ## The Issue Queue (R19) -/

/-- A BUSY slot owned by an entry has that entry in the state of its purpose, on its line. -/
def ownerHeld (l : Lat) (x : Slot) : Bool :=
  match x with
  | .busy (.fetchOf i) line _ _ => entryIs (fun e => e.state == .fetching && e.line == line) (l.entries.get i)
  | .busy (.writeOf i) line _ _ => entryIs (fun e => e.state == .writing && e.line == line) (l.entries.get i)
  | .busy (.readOf _ _) _ _ _ => true
  | .busy .sweepEngine _ _ _ => true
  | .orphaned _ _ _ => true
  | .free => true

/-- Whether an entry is CLOSED. -/
def isClosed (e : Entry) : Bool := e.state == .closed

/-- The Issue Queue holds every CLOSED entry once, and nothing else (R19). -/
def IssueQueueExact (l : Lat) : Prop :=
  l.issueQueue.Nodup ∧ ∀ i : Fin 32, i ∈ l.issueQueue ↔ entryIs isClosed (l.entries.get i) = true

/-- The law of the Issue Queue, with what it rests on. -/
def IssueLaw (s : State) : Prop :=
  ClaimLaw s ∧ (∀ i : Fin 16, ownerHeld s.lat (s.mp.slots.get i) = true) ∧ IssueQueueExact s.lat

/-! ## Gathering (R3, R10) -/

/-- Whether two records are GATHERING entries of one line. -/
def gatherSameLine (a b : Option Entry) : Bool :=
  match a, b with
  | some x, some y => isGathering x && isGathering y && x.line == y.line
  | some _, none => false
  | none, _ => false

/-- At most one GATHERING entry for a line, and at most four WRT indices in a held list (R3, R10). -/
def GatherLaw (s : State) : Prop :=
  (∀ i j : Fin 32, gatherSameLine (s.lat.entries.get i) (s.lat.entries.get j) = true → i = j) ∧
  ∀ i : Fin 32, entryIs (fun e => decide (Config.heldCapacity < e.held.length)) (s.lat.entries.get i) = false

/-! ## Modes (R149, R151, R155) -/

/-- Nothing is pending in the bridge: no entry, context, WRT record or SYNC, no BUSY slot, and the engine is IDLE (R155). -/
def nothingPending (s : State) : Bool :=
  s.lat.entries.cells.all Option.isNone && s.rdp.contexts.cells.all Option.isNone &&
  s.rqp.wrt.cells.all Option.isNone && s.ord.sync.cells.all Option.isNone &&
  s.mp.slots.cells.all (fun x => !slotBusy x) && s.rsw.engine == .idle

/-- Whether the engine is IDLE or WRITING, its states in DRAINING (R111). -/
def engineDrains (e : Engine) : Bool :=
  match e with
  | .idle => true
  | .writing _ _ => true
  | .pacing _ => false
  | .ready _ _ => false
  | .blocked _ _ => false

/-- Whether FLUSH is running. -/
def flushRuns (r : Running) : Bool :=
  match r with
  | .flush _ _ => true
  | .none => false
  | .quiesce => false

/-- Whether the engine's write is under way. -/
def engineWrites (e : Engine) : Bool :=
  match e with
  | .writing _ _ => true
  | .idle => false
  | .pacing _ => false
  | .ready _ _ => false
  | .blocked _ _ => false

/-- The drain condition, as R153 lists it. -/
def DrainCondition (s : State) : Prop :=
  (∀ i, s.lat.entries.get i = none) ∧ (∀ c, s.rdp.contexts.get c = none) ∧ (∀ w, s.rqp.wrt.get w = none) ∧
  (∀ r, s.ord.sync.get r = none) ∧ (∀ i, slotBusy (s.mp.slots.get i) = false) ∧ engineWrites s.rsw.engine = false

/-- The law of the modes: OFFLINE and QUIESCED hold nothing (R149, R155), DRAINING is exactly the mode in which QUIESCE runs
(R151) and never stands with the drain condition met (R153), and FLUSH runs in ONLINE. -/
def ModeLaw (s : State) : Prop :=
  (atRest s.mc.mode = true → nothingPending s = true) ∧
  (s.mc.mode = .draining → engineDrains s.rsw.engine = true) ∧
  (s.mc.mode = .draining ↔ s.mc.running = .quiesce) ∧
  (s.mc.mode = .draining → ¬ DrainCondition s) ∧
  (flushRuns s.mc.running = true → s.mc.mode = .online)

/-! ## Tags in use (R143) -/

/-- The requester and tag of every request taken and not yet answered: READs, AOC WRITEs, SYNCs. -/
def outstandingPairs (s : State) : List (Requester × Tag) :=
  s.rdp.contexts.cells.filterMap (fun c => c.map (fun x => (x.requester, x.tag))) ++
  s.rqp.wrt.cells.filterMap (fun w => w.map (fun x => (x.requester, x.tag))) ++
  (List.finRange 16).filterMap (fun r => (s.ord.sync.get r).map (fun x => (r, x.tag)))

/-- The tag-in-use set holds the pairs of the outstanding requests, and no two of them share a pair (R143). -/
def TagLaw (s : State) : Prop :=
  s.rqp.tags.Nodup ∧ (outstandingPairs s).Nodup ∧ ∀ p : Requester × Tag, p ∈ s.rqp.tags ↔ p ∈ outstandingPairs s

/-! ## Regions and the Ahead List (R90, R97, R99) -/

/-- Whether a record satisfies Table 5-1; the watermark of a SWEEPING region lies below its end (R110). -/
def regionSound (r : Region) : Bool :=
  r.info.all (fun i => decide (i.base % Config.regionUnit = 0 ∧ i.size % Config.regionUnit = 0 ∧ 0 < i.size ∧
    i.base + i.size ≤ Config.spaceBytes)) &&
  (match r with
   | .sweeping i w => decide (w % Config.lineBytes = 0 ∧ i.base ≤ w ∧ w < i.base + i.size)
   | .ready _ => true
   | .absent => true)

/-- Whether two records are present and share a line. -/
def regionsMeet (a b : Region) : Bool :=
  match a.info, b.info with
  | some x, some y => decide (x.base < y.base + y.size ∧ y.base < x.base + x.size)
  | some _, none => false
  | none, _ => false

/-- The law of the Region Table: sound records whose ranges do not overlap (R90, R97). -/
def RegionLaw (s : State) : Prop :=
  (∀ k : Fin 8, regionSound (s.rsw.regions.get k) = true) ∧
  ∀ j k : Fin 8, j ≠ k → regionsMeet (s.rsw.regions.get j) (s.rsw.regions.get k) = false

/-- The Ahead List stands in strictly ascending line order and holds at most 48 records (R99). -/
def AheadLaw (s : State) : Prop :=
  s.rsw.ahead.Pairwise (fun a b => a.line < b.line) ∧ s.rsw.ahead.length ≤ Config.aheadCapacity

/-- The starvation mark is set exactly while R27 gives it. -/
def StarvationLaw (s : State) : Prop := s.starvation = starving s

/-! ## Notices and the Intake Queue (R135, R160, R162) -/

/-- The notice line is asserted exactly while the queue holds a record of an enabled kind, and the queue holds at most 32 records
(R160, R162). -/
def NoticeLaw (s : State) : Prop :=
  s.nu.line = s.nu.queue.any (noticeEnabled s.nu.enables) ∧ s.nu.queue.length ≤ Config.noticeCapacity

/-- The Intake Queue holds at most sixteen requests (R135). -/
def IntakeLaw (s : State) : Prop := s.rqp.intake.length ≤ Config.intakeCapacity

/-! ## What the statements say of frames, evaluations and ends -/

/-- The frame receiver of `s₀` hears a management frame, and the frame's act finds `s` (R166, R174, R175). -/
def FrameFinds (s₀ s : State) : Prop := ignoresFrame s₀ = false ∧ s = frameStart s₀

/-- The state after the sweep has passed line `line` of region `k` at its WRITTEN record: the record is removed and the watermark
advances, or at the end of the region the region is READY and SWEEP_DONE is posted (R97, R102, R104, R110). -/
def withLinePassed (k : Fin 8) (line : Nat) (info : RegionInfo) (s : State) : State :=
  { s with
    rsw := { s.rsw with
      regions := s.rsw.regions.set k
        (if line + 64 = info.base + info.size then .ready info else .sweeping info (line + 64)),
      ahead := s.rsw.ahead.filter (fun r => r.line != line) },
    nu := if line + 64 = info.base + info.size then postToNu (.sweepDone k info.faults) s.nu else s.nu }

/-- `t` is what a fresh evaluation of the sweep engine makes of `s`, case by case as R103 and R104 list it. -/
inductive Evaluates : State → State → Prop where
  /-- Outside ONLINE, or with no region SWEEPING, the engine is IDLE. -/
  | rests (s : State) : s.mc.mode ≠ .online ∨ sweepTarget s = none →
      Evaluates s { s with rsw := { s.rsw with engine := .idle } }
  /-- At a watermark line without a WRITTEN record it is BLOCKED by a claim, or READY. -/
  | stops (s : State) (k : Fin 8) (line : Nat) : s.mc.mode = .online → sweepTarget s = some (k, line) →
      writtenAhead s.rsw line = false →
      Evaluates s { s with rsw := { s.rsw with engine := if claimed s.mp line then .blocked k line else .ready k line } }
  /-- At a WRITTEN record it passes the line and evaluates again. -/
  | passes (s t : State) (k : Fin 8) (line : Nat) (info : RegionInfo) : s.mc.mode = .online →
      sweepTarget s = some (k, line) → s.rsw.regions.get k = .sweeping info line → writtenAhead s.rsw line = true →
      Evaluates (withLinePassed k line info s) t → Evaluates s t

/-- The sweep of `t` is what a fresh evaluation makes of the sweep `r`, in mode `m` and under the claims of `t`. -/
def SweepEvaluated (r : Rsw) (m : Mode) (t : State) : Prop :=
  ∃ u v, u.rsw = r ∧ u.mp = t.mp ∧ u.mc.mode = m ∧ Evaluates u v ∧ t.rsw = v.rsw

/-- What the end of the claim on `line` makes of the sweep `r`: an engine BLOCKED on the line evaluates afresh (R105), one that paces
goes on while the Ahead List stays below SWEEP_URGENT_LEVEL and 48 and evaluates from that level on (R108, R109), and any other is
as it was. -/
structure ClaimEndIsFound (r : Rsw) (m : Mode) (line : Nat) (t : State) : Prop where
  blocked : ∀ k, r.engine = .blocked k line → SweepEvaluated r m t
  pacing : ∀ until_, r.engine = .pacing until_ → r.ahead.length < t.mli.items.sweepUrgentLevel.toNat →
    r.ahead.length < 48 → t.rsw = r
  urgent : ∀ until_, r.engine = .pacing until_ → t.mli.items.sweepUrgentLevel.toNat ≤ r.ahead.length → SweepEvaluated r m t
  others : (∀ k, r.engine ≠ .blocked k line) → (∀ until_, r.engine ≠ .pacing until_) → t.rsw = r

/-- The Ahead List after the LINE_WRITE of entry `e` has ended: with PATTERN fill the IN_FLIGHT record of its line is WRITTEN after
DONE or DONE_CORRECTED and removed after any other end (R101). -/
def aheadAfterEnd (e : Entry) (written : Bool) (list : List AheadRecord) : List AheadRecord :=
  if e.fill = some .pattern then
    if written then
      list.map (fun r => if r.line = e.line ∧ r.state = .inFlight then { r with state := .written } else r)
    else list.filter (fun r => decide ¬(r.line = e.line ∧ r.state = .inFlight))
  else list

/-- The responses that the end of entry `e` releases with held status `status`, in the order of its held list (R43, R144). -/
def releasedResponses (s : State) (e : Entry) (status : HeldStatus) : List Response :=
  e.held.filterMap (fun w => (s.rqp.wrt.get w).bind (fun r =>
    if r.outstanding ≤ 1 then
      some { requester := r.requester, tag := r.tag, status := heldResponse (worseHeld r.worst status), data := [] }
    else none))

/-- The LAT after a judgement of the head in `s`: a WRITE that passes the earlier steps makes the closes of the resource step, any other
head and an empty queue make none (R136, R141). -/
def judgedLat (head : Option Request) (s : State) : Lat :=
  match head with
  | some q => if judge s q = .passes ∧ q.kind = .write then (resourceCloses q s).lat else s.lat
  | none => s.lat

/-- The LAT once the entry at index `i` is FREE and every barrier has forgotten it (R21, R45). -/
def latWithout (i : Fin 32) (failed : Bool) (l : Lat) : Lat :=
  { entries := Table.ofFn (fun j =>
      if j = i then none
      else (l.entries.get j).map (fun x => { x with barrier := x.barrier.map (fun b =>
        if b.predecessors.has i then
          { b with predecessors := b.predecessors.erase i, failed := b.failed || failed }
        else b) })),
    issueQueue := l.issueQueue,
    evictMark := if l.evictMark = some i then none else l.evictMark }

/-- What the end of the entry `e` at index `i` tells everything that waits for it, and the entry's own end (R21, R41 to R45). The
lists of released SYNCs and of discards are the model's (log entry 6). -/
structure EndIsTold (s t : State) (i : Fin 32) (e : Entry) (failed : Bool) (status : HeldStatus) : Prop where
  /-- R21. -/
  freed : t.lat.entries.get i = none
  /-- R45: every predecessor set loses the index, and a failed end marks the barrier. -/
  others : ∀ j x, j ≠ i → s.lat.entries.get j = some x → ∃ y, t.lat.entries.get j = some y ∧ y.line = x.line ∧
    y.cells = x.cells ∧ y.contributors = x.contributors ∧ y.held = x.held ∧
    y.barrier = x.barrier.map (fun b =>
      if b.predecessors.has i then
        { b with predecessors := b.predecessors.erase i, failed := b.failed || failed }
      else b)
  /-- R16, R21: the eviction mark that names the entry is cleared, any other is kept. -/
  markCleared : s.lat.evictMark = some i → t.lat.evictMark ≠ some i
  markKept : ∀ j, j ≠ i → s.lat.evictMark = some j → t.lat.evictMark = some j
  /-- R44. -/
  flags : ∀ q, t.ord.flags.has q = (s.ord.flags.has q || (failed && e.contributors.has q))
  /-- R45, R65. -/
  sync : ∀ q, t.ord.sync.get q = (s.ord.sync.get q).map (fun x => { x with waitSet := x.waitSet.erase i })
  syncReady : t.ord.syncReady = s.ord.syncReady ++ (List.finRange 16).filter (fun q =>
    (s.ord.sync.get q).any (fun x => x.waitSet.has i && (x.waitSet.erase i).isEmpty))
  /-- R60. -/
  discards : t.ord.discards = s.ord.discards ++ (List.finRange 32).filter (fun j =>
    (s.lat.entries.get j).any (fun x => x.barrier.any (fun b =>
      b.predecessors.has i && (b.predecessors.erase i).isEmpty && (b.failed || failed) && b.suppress)))
  rules : t.ord.rules = s.ord.rules
  /-- R45, R68: the FLUSH wait set loses the index, and a failed end in it makes the outcome LOSSES. -/
  flush : ∀ waitSet losses, s.mc.running = .flush waitSet losses → s.mc.mode ≠ .draining →
    t.mc = { s.mc with running := .flush (waitSet.erase i) (losses || (failed && waitSet.has i)) }
  /-- R43, R144: each held record counts down and takes the worse status, and at zero becomes FREE. -/
  wrt : e.held.Nodup → ∀ w, t.rqp.wrt.get w =
    if w ∈ e.held then
      (s.rqp.wrt.get w).bind (fun r =>
        if r.outstanding ≤ 1 then none
        else some { r with outstanding := r.outstanding - 1, worst := worseHeld r.worst status })
    else s.rqp.wrt.get w
  /-- R134, R144: a record that comes to zero is answered, and its pair leaves the tag-in-use set. -/
  answers : e.held.Nodup → t.out = { s.out with responses := s.out.responses ++ releasedResponses s e status }
  tags : e.held.Nodup → t.rqp.tags =
    s.rqp.tags.filter (fun p => (releasedResponses s e status).all (fun r => p != (r.requester, r.tag)))
  intake : t.rqp.intake = s.rqp.intake ∧ t.rqp.link = s.rqp.link
  /-- R136: the head is judged on the table without the entry. -/
  judged : t.lat = judgedLat s.rqp.intake.head? { s with rqp := t.rqp, lat := latWithout i failed s.lat }

/-- The closes of every GATHERING entry of `before` that satisfies `p`, in ascending entry index, make it `after`: such an entry stays,
keeps its line, bytes, contributors, held list and merge time, becomes CLOSED without a deadline, takes a close number newer than
every earlier one and joins the tail of the Issue Queue; every other entry and the eviction mark are as they were (R17). -/
structure ClosedInOrder (p : Entry → Bool) (before after : Lat) : Prop where
  queue : after.issueQueue = before.issueQueue ++
    (List.finRange 32).filter (fun i => entryIs (fun e => isGathering e && p e) (before.entries.get i))
  closed : ∀ i e, before.entries.get i = some e → e.state = .gathering → p e = true →
    ∃ n, after.entries.get i = some { e with state := .closed, closeNumber := some n, deadline := none } ∧
      ∀ j x m, before.entries.get j = some x → x.closeNumber = some m → m < n
  ascending : ∀ i j e f m n, i < j → entryIs (fun x => isGathering x && p x) (before.entries.get i) = true →
    entryIs (fun x => isGathering x && p x) (before.entries.get j) = true → after.entries.get i = some e →
    after.entries.get j = some f → e.closeNumber = some m → f.closeNumber = some n → m < n
  kept : ∀ i, entryIs (fun e => isGathering e && p e) (before.entries.get i) = false →
    after.entries.get i = before.entries.get i
  mark : after.evictMark = before.evictMark

/-- The entries of the list close one after another: each stays with its line, bytes, contributors, held list and merge time, becomes
CLOSED without a deadline, and takes a close number newer than every earlier one, in the order of the list (R17). -/
structure ClosedInTurn (list : List (Fin 32)) (before after : Lat) : Prop where
  closed : ∀ i ∈ list, ∀ e, before.entries.get i = some e →
    ∃ n, after.entries.get i = some { e with state := .closed, closeNumber := some n, deadline := none } ∧
      ∀ j x m, before.entries.get j = some x → x.closeNumber = some m → m < n
  ascending : list.Pairwise (fun i j => ∀ e f m n, after.entries.get i = some e → after.entries.get j = some f →
    e.closeNumber = some m → f.closeNumber = some n → m < n)

/-- `e` is what the piece `p` of the WRITE `q`, taken at `moment`, makes of the record `old`: a GATHERING entry into which it merges, or
none, where it opens one (R6, R7). An AOC WRITE's record `w` joins the held list (R10). A full byte set closes the entry for
MASK_FULL (R13, R17). -/
structure PiecePlaced (s : State) (q : Request) (w : Fin 16) (p : Span) (moment : Nat) (old : Option Entry) (e : Entry) : Prop where
  line : e.line = p.line
  cells : ∀ k, e.cells.get k =
    if spanHolds p k then .written (spanByte p q.data k) else (old.map (fun x => x.cells.get k)).getD .unset
  contributors : ∀ r, e.contributors.has r = (old.any (fun x => x.contributors.has r) || decide (r = q.requester))
  held : e.held = (old.map Entry.held).getD [] ++ (if q.aoc then [w] else [])
  barrier : e.barrier = old.bind Entry.barrier
  fill : e.fill = old.bind Entry.fill
  lastMerge : e.lastMerge = moment
  gathering : cellsFull e.cells = false → e.state = .gathering ∧ e.closeNumber = old.bind Entry.closeNumber ∧
    e.deadline = if s.mli.items.gatherTimeout = 0#32 then none else some (moment + s.mli.items.gatherTimeout.toNat)
  closed : cellsFull e.cells = true → e.state = .closed ∧ e.deadline = none ∧
    ∃ n, e.closeNumber = some n ∧ ∀ j x m, s.lat.entries.get j = some x → x.closeNumber = some m → m < n

/-- The Notification Unit after notices have been posted, the first of the list first (R159, R160). -/
def postAll (bodies : List NoticeBody) (u : Nu) : Nu := bodies.foldl (fun u body => postToNu body u) u

/-- Whether a notice is a COMMAND_DONE. -/
def isCommandDone (body : NoticeBody) : Bool := noticeKind body == 10

/-- What the drain test of an event in DRAINING makes of `s`, where `t` is the state after the event: once the drain condition holds
the mode is QUIESCED, QUIESCE has ended with DONE and COMMAND_DONE stands behind the notices `own` of the event itself; else
Mode Control is as it was (R151, R153). The counters count apart from the notices. -/
def DrainTested (s t : State) : Prop :=
  ∃ own counters, (∀ b ∈ own, isCommandDone b = false) ∧
    (DrainCondition t → t.mc = { mode := .quiesced, running := .none, last := some (.quiesce, .done) } ∧
      t.nu = postToNu (.commandDone .quiesce .done) { postAll own s.nu with counters := counters }) ∧
    (¬ DrainCondition t → t.mc = s.mc ∧ t.nu = { postAll own s.nu with counters := counters })

/-! ## Layouts (R178, R179, Tables 12-5 to 12-7) -/

/-- The number in the `n` bytes from place `place` on, most significant byte first (R178). -/
def fieldAt (bytes : List Byte) (place n : Nat) : Nat := ofBigEndian ((bytes.drop place).take n)

/-- Every byte from `place` on is zero. -/
def ZeroFrom (bytes : List Byte) (place : Nat) : Prop := ∀ b ∈ bytes.drop place, b = 0#8

/-- Bit `r` of a 2-byte field stands for requester `r` (R178). -/
def SetAt (bytes : List Byte) (place : Nat) (who : FinSet 16) : Prop :=
  ∀ r : Fin 16, (fieldAt bytes place 2).testBit r.val = who.has r

/-- The 19 bytes of a notice record: the sequence number at 0, the kind code at 2, the fields of Table 12-7 from 3 on, and zeros
behind them (R179). A line or address field is the low 40 bits of its value. -/
def NoticeLaidOut (bytes : List Byte) (n : Notice) : Prop :=
  bytes.length = 19 ∧ fieldAt bytes 0 2 = n.seq.toNat ∧
  match n.body with
  | .writeLost line who cause =>
    fieldAt bytes 2 1 = 0 ∧ fieldAt bytes 3 5 = line % 2 ^ 40 ∧ SetAt bytes 8 who ∧
    (fieldAt bytes 10 1, fieldAt bytes 11 1) = (match cause with
      | .fetchFault => (0, 0)
      | .fetchTimeout => (1, 0)
      | .writeFault => (2, 0)
      | .suppressed rule => (3, rule.val)) ∧ ZeroFrom bytes 12
  | .writeUnconfirmed line who =>
    fieldAt bytes 2 1 = 1 ∧ fieldAt bytes 3 5 = line % 2 ^ 40 ∧ SetAt bytes 8 who ∧ ZeroFrom bytes 10
  | .readFault line requester tag cause =>
    fieldAt bytes 2 1 = 2 ∧ fieldAt bytes 3 5 = line % 2 ^ 40 ∧ fieldAt bytes 8 1 = requester.val ∧
    fieldAt bytes 9 1 = tag.val ∧ fieldAt bytes 10 1 = (match cause with
      | .dataFault => 0
      | .timeout => 1) ∧ ZeroFrom bytes 11
  | .lateResponse slot line purpose =>
    fieldAt bytes 2 1 = 3 ∧ fieldAt bytes 3 1 = slot.val ∧ fieldAt bytes 4 5 = line % 2 ^ 40 ∧
    fieldAt bytes 9 1 = (match purpose with
      | .entryFetch => 1
      | .entryWrite => 2
      | .read => 3
      | .sweep => 4) ∧ ZeroFrom bytes 10
  | .strayResponse slot => fieldAt bytes 2 1 = 4 ∧ fieldAt bytes 3 1 = slot.val ∧ ZeroFrom bytes 4
  | .memoryStalled => fieldAt bytes 2 1 = 5 ∧ ZeroFrom bytes 3
  | .sweepFault region line cause =>
    fieldAt bytes 2 1 = 6 ∧ fieldAt bytes 3 1 = region.val ∧ fieldAt bytes 4 5 = line % 2 ^ 40 ∧
    fieldAt bytes 9 1 = (match cause with
      | .dataFault => 0
      | .timeout => 1) ∧ ZeroFrom bytes 10
  | .sweepDone region faults =>
    fieldAt bytes 2 1 = 7 ∧ fieldAt bytes 3 1 = region.val ∧ fieldAt bytes 4 2 = faults.toNat ∧ ZeroFrom bytes 6
  | .releaseNote rule requester address data =>
    fieldAt bytes 2 1 = 8 ∧ fieldAt bytes 3 1 = rule.val ∧ fieldAt bytes 4 1 = requester.val ∧
    fieldAt bytes 5 5 = address.toNat ∧ fieldAt bytes 10 1 = data.length % 256 ∧
    ∀ k : Fin 8, bytes[11 + k.val]? = some (data.getD k.val 0#8)
  | .requestRefused requester tag status cause address =>
    fieldAt bytes 2 1 = 9 ∧ fieldAt bytes 3 1 = requester.val ∧ fieldAt bytes 4 1 = tag.val ∧
    fieldAt bytes 5 1 = (match status with
      | .ok => 0
      | .dataError => 1
      | .timeout => 2
      | .writeFailed => 3
      | .rangeError => 4
      | .protocolError => 5
      | .busy => 6
      | .offline => 7
      | .aborted => 8) ∧
    fieldAt bytes 6 1 = (match cause with
      | .badKind => 0
      | .badLength => 1
      | .duplicateTag => 2
      | .beyondSpace => 3
      | .noRegion => 4) ∧
    (fieldAt bytes 7 1, fieldAt bytes 8 5) = (match address with
      | some a => (1, a.toNat)
      | none => (0, 0)) ∧ ZeroFrom bytes 13
  | .commandDone command outcome =>
    fieldAt bytes 2 1 = 10 ∧ fieldAt bytes 3 1 = (match command with
      | .quiesce => 1
      | .flush => 2) ∧
    fieldAt bytes 4 1 = (match outcome with
      | .done => 1
      | .abandoned => 2
      | .clean => 3
      | .losses => 4
      | .aborted => 5) ∧ ZeroFrom bytes 5

/-- The fields of an answer part in their places behind the status byte, each the low bytes of its value, and the whole length
(Tables 12-5 and 12-6). -/
def FieldsLaidOut (bytes : List Byte) (fields : AnswerFields) : Prop :=
  match fields with
  | .nothing => bytes.length = 1
  | .item value => bytes.length = 6 ∧ fieldAt bytes 1 5 = value.toNat
  | .status r =>
    bytes.length = 16 ∧
    fieldAt bytes 1 1 = (match r.mode with
      | .offline => 0
      | .online => 1
      | .draining => 2
      | .quiesced => 3) ∧
    fieldAt bytes 2 1 = (match r.running with
      | none => 0
      | some .quiesce => 1
      | some .flush => 2) ∧
    fieldAt bytes 3 1 = (match r.last with
      | none => 0
      | some (.quiesce, _) => 1
      | some (.flush, _) => 2) ∧
    fieldAt bytes 4 1 = (match r.last with
      | none => 0
      | some (_, .done) => 1
      | some (_, .abandoned) => 2
      | some (_, .clean) => 3
      | some (_, .losses) => 4
      | some (_, .aborted) => 5) ∧
    fieldAt bytes 5 1 = r.noticesHeld % 256 ∧ fieldAt bytes 6 1 = r.entriesInUse % 256 ∧
    fieldAt bytes 7 1 = r.slotsBusy % 256 ∧ fieldAt bytes 8 1 = r.slotsOrphaned % 256 ∧
    fieldAt bytes 9 1 = r.aheadCount % 256 ∧ fieldAt bytes 10 1 = (if r.brokenFrame then 1 else 0) ∧
    fieldAt bytes 11 5 = r.partIdent.toNat
  | .counters c =>
    bytes.length = 37 ∧ fieldAt bytes 1 4 = c.merges.toNat ∧ fieldAt bytes 5 4 = c.wholeWrites.toNat ∧
    fieldAt bytes 9 4 = c.fetchWrites.toNat ∧ fieldAt bytes 13 4 = c.patternWrites.toNat ∧
    fieldAt bytes 17 4 = c.forwardedReads.toNat ∧ fieldAt bytes 21 4 = c.patternReads.toNat ∧
    fieldAt bytes 25 4 = c.correctedReads.toNat ∧ fieldAt bytes 29 4 = c.lateResponses.toNat ∧
    fieldAt bytes 33 4 = c.noticesLost.toNat
  | .flags who => bytes.length = 3 ∧ SetAt bytes 1 who
  | .slots views =>
    bytes.length = 97 ∧ ∀ i : Fin 16,
      (fieldAt bytes (1 + 6 * i.val) 1 / 16, fieldAt bytes (1 + 6 * i.val) 1 % 16, fieldAt bytes (2 + 6 * i.val) 5) =
        (match views.get i with
         | .free => (0, 0, 0)
         | .busy .entryFetch line => (1, 1, line % 2 ^ 40)
         | .busy .entryWrite line => (1, 2, line % 2 ^ 40)
         | .busy .read line => (1, 3, line % 2 ^ 40)
         | .busy .sweep line => (1, 4, line % 2 ^ 40)
         | .orphaned .entryFetch line => (2, 1, line % 2 ^ 40)
         | .orphaned .entryWrite line => (2, 2, line % 2 ^ 40)
         | .orphaned .read line => (2, 3, line % 2 ^ 40)
         | .orphaned .sweep line => (2, 4, line % 2 ^ 40))
  | .region record aheadCount =>
    bytes.length = 27 ∧
    match record.info with
    | none => ZeroFrom bytes 1
    | some info =>
      (fieldAt bytes 1 1, fieldAt bytes 19 5) = (match record with
        | .absent => (0, 0)
        | .sweeping _ watermark => (1, watermark % 2 ^ 40)
        | .ready _ => (2, 0)) ∧
      fieldAt bytes 2 5 = info.base % 2 ^ 40 ∧ fieldAt bytes 7 4 = info.size / 65536 % 2 ^ 32 ∧
      (∀ k : Fin 8, bytes[11 + k.val]? = some (info.pattern.get k)) ∧
      fieldAt bytes 24 2 = info.faults.toNat ∧ fieldAt bytes 26 1 = aheadCount % 256
  | .rule none => bytes.length = 16 ∧ ZeroFrom bytes 1
  | .rule (some rule) =>
    bytes.length = 16 ∧ fieldAt bytes 1 1 = 1 ∧ fieldAt bytes 2 5 = rule.base / 64 % 2 ^ 40 ∧
    fieldAt bytes 7 5 = rule.limit / 64 % 2 ^ 40 ∧
    fieldAt bytes 12 1 = (match rule.requester with
      | some r => r.val
      | none => 0xFF) ∧
    fieldAt bytes 13 1 = (match rule.scope with
      | .own => 0
      | .all => 1) ∧
    fieldAt bytes 14 1 = (if rule.suppress then 1 else 0) ∧ fieldAt bytes 15 1 = (if rule.note then 1 else 0)
  | .reclaimed n => bytes.length = 2 ∧ fieldAt bytes 1 1 = n % 256
  | .notice n => bytes.length = 20 ∧ NoticeLaidOut (bytes.drop 1) n

/-- The bytes of an answer part: the status code of Table 12-5, and the fields behind it. -/
def AnswerLaidOut (bytes : List Byte) (a : Answer) : Prop :=
  fieldAt bytes 0 1 = (match a.status with
    | .done => 0
    | .started => 1
    | .refusedMode => 2
    | .refusedArgument => 3
    | .busy => 4
    | .empty => 5
    | .unknownCommand => 6) ∧ FieldsLaidOut bytes a.fields

/-- The length of a command's answer part with DONE, the last column of Table 12-6; zero for what is no frame. -/
def doneLength (c : Instr) : Nat :=
  match c with
  | .getItem _ => 6
  | .setItem _ _ => 1
  | .readStatus => 16
  | .readCounters => 37
  | .clearCounters => 1
  | .readFlags => 3
  | .readSlots => 97
  | .defineRegion _ _ _ _ _ => 1
  | .retireRegion _ => 1
  | .readRegion _ => 27
  | .setRule _ _ _ _ _ _ _ => 1
  | .clearRule _ => 1
  | .readRule _ => 16
  | .goOnline => 1
  | .quiesce => 1
  | .resume => 1
  | .flush => 1
  | .resetBridge => 1
  | .reclaimSlots => 2
  | .takeNotice => 20
  | .unknownCommand _ => 1
  | .requestArrival _ => 0
  | .take _ => 0
  | .grant _ => 0
  | .memoryLinkAccept => 0
  | .memoryResponse _ _ => 0
  | .slotDeadline _ => 0
  | .gatherDeadline _ => 0
  | .pacingEnd => 0
  | .suppressionDiscard => 0
  | .readResponse => 0
  | .syncResponse => 0
  | .flushComplete => 0
  | .noticeRemoved => 0
  | .brokenFrame _ => 0
  | .powerOnReset => 0
  | .resetReleased => 0

end Sys2Proof.Machine
end

