-- ==== Sys2Proof/Certificates/Slice0/Obligations.lean ====
section
/-! DEFINITION. The statements for the provers. `t` is the next state throughout; where a statement writes `t` as an update of `s`,
the fields it does not name are unchanged. -/

open Sys2Proof Sys2Proof.Machine

/-! ## The step, power-on and the held reset -/

/-- A step runs the front command on the queue's rest. On an empty queue one microsecond passes, which is the model's choice
(log entry 1). -/
def Obligations.StepRunsTheFrontCommand : Prop :=
  (∀ (c : Instr) (s : State), step { s with pending := c :: s.pending } = exec c s) ∧
  ∀ s : State, s.pending = [] → step s = .next { s with now := s.now + 1 }

/-- The values of R158 and of the rules it names. The timebase and the trace of outputs are the model's choice (log entry 8)
and are not stated. -/
def Obligations.PowerOnValuesOfEveryBlock : Prop :=
  State.reset.mc = { mode := .offline, running := .none, last := none } ∧
  State.reset.rqp.intake = [] ∧ State.reset.rqp.tags = [] ∧ (∀ w, State.reset.rqp.wrt.get w = none) ∧
  (∀ i, State.reset.lat.entries.get i = none) ∧ State.reset.lat.issueQueue = [] ∧ State.reset.lat.evictMark = none ∧
  State.reset.starvation = false ∧ (∀ c, State.reset.rdp.contexts.get c = none) ∧
  (∀ k, State.reset.ord.rules.get k = none) ∧ (∀ r, State.reset.ord.sync.get r = none) ∧
  (∀ r, State.reset.ord.flags.has r = false) ∧ (∀ k, State.reset.rsw.regions.get k = .absent) ∧
  State.reset.rsw.ahead = [] ∧ State.reset.rsw.engine = .idle ∧ (∀ i, State.reset.mp.slots.get i = .free) ∧
  State.reset.mp.sendOrder = [] ∧ State.reset.mp.turn = .write ∧ State.reset.mp.stallMark = false ∧
  State.reset.nu = { queue := [], seq := 0#16, enables := 0x7FF#11, line := false, counters := Counters.zero } ∧
  State.reset.mli.items =
    { gatherTimeout := 16#32, memoryTimeout := 2000#32, sweepInterval := 4#32, sweepUrgentLevel := 40#32 } ∧
  State.reset.mli.brokenFrame = false ∧ State.reset.mli.frame = .waiting

/-- POWER_ON_RESET puts every block at its power-on value and holds it there; RESET_RELEASED ends the hold (R158). While the
reset is held a request joins the link, and every other command but these two leaves all but the frame receiver as it is; a
frame that the reset cuts is ignored from then on (R175). The model's choices are that the link, the timebase, the trace of
outputs and the queue are kept (log entries 5 and 8), that a RESET_RELEASED without a held reset changes nothing (log entry
3), and that every other command has no effect while held (log entry 9). -/
def Obligations.PowerOnResetClearsAndHolds : Prop :=
  ∀ s : State,
    exec .powerOnReset s = .next { State.reset with
      rqp := { State.reset.rqp with link := s.rqp.link },
      mli := { State.reset.mli with frame := if s.mli.frame = .ignoring then .ignoring else .waiting },
      held := true, now := s.now, out := s.out, pending := s.pending } ∧
    (s.held = true → exec .resetReleased s = .next { State.reset with
      rqp := { State.reset.rqp with link := s.rqp.link },
      mli := { State.reset.mli with frame := if s.mli.frame = .ignoring then .ignoring else .waiting },
      held := false, now := s.now, out := s.out, pending := s.pending }) ∧
    (s.held = false → exec .resetReleased s = .next s) ∧
    ∀ c : Instr, s.held = true → c ≠ .powerOnReset → c ≠ .resetReleased →
      (∃ q, c = .requestArrival q ∧
        exec c s = .next { s with rqp := { s.rqp with link := s.rqp.link ++ [q] } }) ∨
      ((∀ q, c ≠ .requestArrival q) ∧ ∃ f, exec c s = .next { s with mli := { s.mli with frame := f } } ∧
        (c = .brokenFrame .byReset → f = .ignoring) ∧
        (c ≠ .brokenFrame .byReset → s.mli.frame ≠ .ignoring → f = s.mli.frame))

/-! ## The requester link -/

/-- R135, R136: the Intake Queue takes up to sixteen requests in their order over the link. An arrival behind others changes
nothing else; one into an empty queue makes the head, which is judged, and the judgement makes the closes of the resource
step (R14, R15, R141). That the link keeps one order over all requesters, and that requests held back on it join in that
order, is the model's choice (log entry 5, DESIGN CHOICE, unsafe). -/
def Obligations.ArrivalJoinsTheIntakeQueue : Prop :=
  ∀ (q : Request) (s : State), s.held = false → s.rqp.intake.length ≤ 16 →
    ∃ t, exec (.requestArrival q) s = .next t ∧
      t.rqp.intake ++ t.rqp.link = s.rqp.intake ++ s.rqp.link ++ [q] ∧
      t.rqp.intake.length = min 16 (s.rqp.intake.length + s.rqp.link.length + 1) ∧
      t.rqp.tags = s.rqp.tags ∧ t.rqp.wrt = s.rqp.wrt ∧
      t = { s with rqp := t.rqp, lat := t.lat, starvation := t.starvation } ∧
      (s.rqp.intake ≠ [] → t.lat = s.lat ∧ t.starvation = s.starvation) ∧
      (∀ h tail, s.rqp.intake = [] → s.rqp.link ++ [q] = h :: tail →
        t.lat = if judge s h = .passes ∧ h.kind = .write then (resourceCloses h s).lat else s.lat) ∧
      (s.mc.mode ≠ .online → t.lat = s.lat)

/-- R137: in OFFLINE the head is answered OFFLINE and leaves; in DRAINING and QUIESCED it stays. -/
def Obligations.TakeOutsideOnline : Prop :=
  ∀ (time : Nat) (q : Request) (rest : List Request) (s : State), s.held = false →
    s.rqp.intake ++ s.rqp.link = q :: rest →
    (s.mc.mode = .offline → ∃ t, exec (.take time) s = .next t ∧
      t.rqp.intake ++ t.rqp.link = rest ∧ t.rqp.tags = s.rqp.tags ∧ t.rqp.wrt = s.rqp.wrt ∧
      t = { s with
        rqp := t.rqp, starvation := t.starvation, now := max s.now time,
        out := { s.out with responses := s.out.responses ++
          [{ requester := q.requester, tag := q.tag, status := .offline, data := [] }] } }) ∧
    (s.mc.mode = .draining ∨ s.mc.mode = .quiesced → ∃ t, exec (.take time) s = .next t ∧
      t.rqp.intake ++ t.rqp.link = q :: rest ∧ t.rqp.tags = s.rqp.tags ∧ t.rqp.wrt = s.rqp.wrt ∧
      t = { s with rqp := t.rqp, starvation := t.starvation, now := max s.now time })

/-- R138, R139, R145: a head that fails the legality or the range step is answered, with a REQUEST_REFUSED posted, and touches
no other block. R135, R136, R141: when any head leaves, the request behind it becomes the head and is judged, and its judgement
makes the closes of the resource step (R14, R15); otherwise what a TAKE does with a head is what it does where that request
stands alone, so that the statements about a single request hold for the head of any queue. -/
def Obligations.RefusedHeadIsAnsweredAndReported : Prop :=
  (∀ (time : Nat) (q : Request) (rest : List Request) (status : ResponseStatus) (cause : RefusalCause) (s : State),
    s.held = false → s.mc.mode = .online → s.rqp.intake ++ s.rqp.link = q :: rest →
    ((status = .protocolError ∧
        ((cause = .badKind ∧ q.kind = .unknown) ∨
         (cause = .badLength ∧ (q.kind = .read ∨ q.kind = .write) ∧ (q.length.val = 0 ∨ 64 < q.length.val)) ∨
         (cause = .duplicateTag ∧ (q.kind = .sync ∨ ((q.kind = .read ∨ q.kind = .write) ∧ 0 < q.length.val ∧
            q.length.val ≤ 64)) ∧ (q.requester, q.tag) ∈ s.rqp.tags))) ∨
     (status = .rangeError ∧ (q.kind = .read ∨ q.kind = .write) ∧ 0 < q.length.val ∧ q.length.val ≤ 64 ∧
        (q.requester, q.tag) ∉ s.rqp.tags ∧
        ((cause = .beyondSpace ∧ 2 ^ 40 < q.address.toNat + q.length.val) ∨
         (cause = .noRegion ∧ q.address.toNat + q.length.val ≤ 2 ^ 40 ∧
            ∃ p ∈ requestSpans q, ∀ k, regionHolds p.line (s.rsw.regions.get k) = false)))) →
    ∃ t, exec (.take time) s = .next t ∧
      t.nu = postToNu (.requestRefused q.requester q.tag status cause
        (if q.kind = .sync ∨ cause = .badKind then none else some q.address)) s.nu ∧
      t.rqp.intake ++ t.rqp.link = rest ∧ t.rqp.tags = s.rqp.tags ∧ t.rqp.wrt = s.rqp.wrt ∧
      t.lat = judgedLat rest.head? s ∧
      t = { s with
        rqp := t.rqp, lat := t.lat, starvation := t.starvation, nu := t.nu, now := max s.now time,
        out := { s.out with responses := s.out.responses ++
          [{ requester := q.requester, tag := q.tag, status := status, data := [] }] } }) ∧
  ∀ (time : Nat) (q : Request) (rest : List Request) (s : State), s.held = false →
    s.rqp.intake ++ s.rqp.link = q :: rest →
    ∃ t u, exec (.take time) s = .next t ∧
      exec (.take time) { s with rqp := { s.rqp with intake := [q], link := [] } } = .next u ∧
      t = { u with
        rqp := { u.rqp with intake := t.rqp.intake, link := t.rqp.link }, lat := t.lat, starvation := t.starvation } ∧
      (u.rqp.intake = [q] → t.rqp.intake ++ t.rqp.link = q :: rest ∧ t.lat = u.lat) ∧
      (u.rqp.intake = [] → t.rqp.intake ++ t.rqp.link = rest ∧ t.lat = judgedLat rest.head? u ∧
        (s.rqp.intake.length ≤ 16 → t.rqp.intake.length = min 16 rest.length)) ∧
      (u.rqp.intake = [q] ∨ u.rqp.intake = [])

/-- R5, R6, R11, R13, R17: a posted WRITE of one piece that matches no rule and meets no GATHERING entry opens the FREE entry
with the lowest index. A whole line closes it for MASK_FULL in the same take, with the newest close number and at the tail of
the Issue Queue. -/
def Obligations.PostedWriteOpensAnEntry : Prop :=
  ∀ (time : Nat) (q : Request) (p : Span) (i : Fin 32) (s : State),
    s.held = false → s.rqp.intake ++ s.rqp.link = [q] → q.kind = .write → q.aoc = false →
    judge s q = .passes → ruleFor s.ord q = none → requestSpans q = [p] →
    gatheringOf s.lat p.line = none → s.lat.entries.get i = none →
    (∀ j : Fin 32, j < i → (s.lat.entries.get j).isSome = true) →
    ∃ t e, exec (.take time) s = .next t ∧
      t.lat = { s.lat with
        entries := s.lat.entries.set i (some e),
        issueQueue := if q.length.val = 64 then s.lat.issueQueue ++ [i] else s.lat.issueQueue } ∧
      e.line = p.line ∧ e.held = [] ∧ e.barrier = none ∧ e.fill = none ∧
      (∀ r, e.contributors.has r = decide (r = q.requester)) ∧
      (∀ k, e.cells.get k = if spanHolds p k then .written (spanByte p q.data k) else .unset) ∧
      e.lastMerge = max s.now time ∧
      (q.length.val < 64 → e.state = .gathering ∧ e.closeNumber = none ∧
        e.deadline = (if s.mli.items.gatherTimeout = 0#32 then none
          else some (max s.now time + s.mli.items.gatherTimeout.toNat))) ∧
      (q.length.val = 64 → e.state = .closed ∧ e.deadline = none ∧
        ∃ n, e.closeNumber = some n ∧ ∀ j x m, s.lat.entries.get j = some x → x.closeNumber = some m → m < n) ∧
      t.rqp.intake ++ t.rqp.link = [] ∧ t.rqp.tags = s.rqp.tags ∧ t.rqp.wrt = s.rqp.wrt ∧
      t = { s with
        rqp := t.rqp, lat := t.lat, starvation := t.starvation, now := max s.now time,
        out := { s.out with responses := s.out.responses ++
          [{ requester := q.requester, tag := q.tag, status := .ok, data := [] }] } }

/-- R7, R10, R13, R142: a WRITE of one piece, posted or AOC with room in the held list, merges into its line's GATHERING entry,
which closes for MASK_FULL when its byte set becomes full; MERGES counts one. An AOC WRITE appends the FREE WRT record with the
lowest index to the held list and is not answered yet. R14: where the held list is full the entry closes for HELD_LIMIT as the
head is judged, and the piece opens an entry of its own once an entry and a WRT record are FREE; else the head stays. This
clause holds where no line has two GATHERING entries (R3, GatherLaw). -/
def Obligations.PostedWriteMergesIntoAnEntry : Prop :=
  ∀ (time : Nat) (q : Request) (p : Span) (w : Fin 16) (i : Fin 32) (e : Entry) (s : State),
    s.held = false → s.rqp.intake ++ s.rqp.link = [q] → q.kind = .write →
    judge s q = .passes → ruleFor s.ord q = none → requestSpans q = [p] →
    gatheringOf s.lat p.line = some i → s.lat.entries.get i = some e →
    ((q.aoc = true → e.held.length < 4 ∧ lowestFreeWrt s.rqp = some w) →
      ∃ t e', exec (.take time) s = .next t ∧ t.lat.entries = s.lat.entries.set i (some e') ∧
      e'.line = e.line ∧ e'.held = (if q.aoc then e.held ++ [w] else e.held) ∧ e'.barrier = e.barrier ∧ e'.fill = e.fill ∧
      (∀ r, e'.contributors.has r = (e.contributors.has r || decide (r = q.requester))) ∧
      (∀ k, e'.cells.get k = if spanHolds p k then .written (spanByte p q.data k) else e.cells.get k) ∧
      e'.lastMerge = max s.now time ∧
      (cellsFull e'.cells = false → e'.state = .gathering ∧ t.lat.issueQueue = s.lat.issueQueue ∧
        e'.closeNumber = e.closeNumber ∧
        e'.deadline = (if s.mli.items.gatherTimeout = 0#32 then none
          else some (max s.now time + s.mli.items.gatherTimeout.toNat))) ∧
      (cellsFull e'.cells = true → e'.state = .closed ∧ e'.deadline = none ∧
        t.lat.issueQueue = s.lat.issueQueue ++ [i] ∧
        ∃ n, e'.closeNumber = some n ∧ ∀ j x m, s.lat.entries.get j = some x → x.closeNumber = some m → m < n) ∧
      t.nu = { s.nu with counters := { s.nu.counters with merges := countUp s.nu.counters.merges } } ∧
      t.rqp.intake ++ t.rqp.link = [] ∧
      t.rqp.tags = (if q.aoc then s.rqp.tags ++ [(q.requester, q.tag)] else s.rqp.tags) ∧
      t.rqp.wrt = (if q.aoc then
          s.rqp.wrt.set w (some { requester := q.requester, tag := q.tag, outstanding := 1, worst := .ok })
        else s.rqp.wrt) ∧
      t.lat.evictMark = s.lat.evictMark ∧
      t = { s with
        rqp := t.rqp, lat := t.lat, starvation := t.starvation, nu := t.nu, now := max s.now time,
        out := if q.aoc then s.out
          else { s.out with responses := s.out.responses ++
            [{ requester := q.requester, tag := q.tag, status := .ok, data := [] }] } }) ∧
    (GatherLaw s → q.aoc = true → 4 ≤ e.held.length → ∃ t n later, exec (.take time) s = .next t ∧
      t.lat.entries.get i = some { e with state := .closed, closeNumber := some n, deadline := none } ∧
      (∀ j x m, s.lat.entries.get j = some x → x.closeNumber = some m → m < n) ∧
      t.lat.issueQueue = s.lat.issueQueue ++ i :: later ∧
      (∀ j, lowestFreeEntry s.lat = some j → lowestFreeWrt s.rqp = some w →
        later = (if q.length.val = 64 then [j] else []) ∧ t.lat.evictMark = s.lat.evictMark ∧
        (∃ x, t.lat.entries =
            (s.lat.entries.set i (some { e with state := .closed, closeNumber := some n, deadline := none })).set j (some x) ∧
          x.state = (if q.length.val = 64 then .closed else .gathering) ∧ x.line = p.line ∧ x.held = [w] ∧
          (∀ r, x.contributors.has r = decide (r = q.requester)) ∧
          ∀ k, x.cells.get k = if spanHolds p k then .written (spanByte p q.data k) else .unset) ∧
        t.rqp.intake ++ t.rqp.link = [] ∧ t.rqp.tags = s.rqp.tags ++ [(q.requester, q.tag)] ∧
        t.rqp.wrt =
          s.rqp.wrt.set w (some { requester := q.requester, tag := q.tag, outstanding := 1, worst := .ok })) ∧
      (lowestFreeEntry s.lat = none ∨ lowestFreeWrt s.rqp = none →
        t.rqp.intake ++ t.rqp.link = [q] ∧ t.rqp.tags = s.rqp.tags ∧ t.rqp.wrt = s.rqp.wrt) ∧
      t = { s with rqp := t.rqp, lat := t.lat, starvation := t.starvation, now := max s.now time })

/-- R6, R11, R13, R142, R144: an AOC WRITE of one piece that matches no rule and opens an entry takes the FREE WRT record with
the lowest index, holds its tag, and is not answered yet. A whole line closes the entry for MASK_FULL in the same take (R17).
-/
def Obligations.AcknowledgedWriteOpensARecord : Prop :=
  ∀ (time : Nat) (q : Request) (p : Span) (w : Fin 16) (i : Fin 32) (s : State),
    s.held = false → s.rqp.intake ++ s.rqp.link = [q] → q.kind = .write → q.aoc = true →
    judge s q = .passes → ruleFor s.ord q = none → requestSpans q = [p] → gatheringOf s.lat p.line = none →
    lowestFreeEntry s.lat = some i → s.rqp.wrt.get w = none →
    (∀ v : Fin 16, v < w → (s.rqp.wrt.get v).isSome = true) →
    ∃ t e, exec (.take time) s = .next t ∧
      t.rqp.wrt = s.rqp.wrt.set w (some { requester := q.requester, tag := q.tag, outstanding := 1, worst := .ok }) ∧
      t.rqp.tags = s.rqp.tags ++ [(q.requester, q.tag)] ∧ t.rqp.intake ++ t.rqp.link = [] ∧
      t.lat = { s.lat with
        entries := s.lat.entries.set i (some e),
        issueQueue := if q.length.val = 64 then s.lat.issueQueue ++ [i] else s.lat.issueQueue } ∧
      e.line = p.line ∧ e.held = [w] ∧ e.barrier = none ∧ e.fill = none ∧
      (∀ r, e.contributors.has r = decide (r = q.requester)) ∧
      (∀ k, e.cells.get k = if spanHolds p k then .written (spanByte p q.data k) else .unset) ∧
      e.lastMerge = max s.now time ∧
      (q.length.val < 64 → e.state = .gathering ∧ e.closeNumber = none ∧
        e.deadline = (if s.mli.items.gatherTimeout = 0#32 then none
          else some (max s.now time + s.mli.items.gatherTimeout.toNat))) ∧
      (q.length.val = 64 → e.state = .closed ∧ e.deadline = none ∧
        ∃ n, e.closeNumber = some n ∧ ∀ j x m, s.lat.entries.get j = some x → x.closeNumber = some m → m < n) ∧
      t = { s with rqp := t.rqp, lat := t.lat, starvation := t.starvation, now := max s.now time }

/-- R4 to R7, R10, R13, R140, R142, R144: a WRITE of two pieces that matches no rule and meets no GATHERING entry opens the two
lowest FREE entries, the lower line's first. In general each piece merges into its line's GATHERING entry or opens the lowest
FREE one, the lower line's first: one may merge and the other open, or both merge, and an entry whose byte set becomes full
closes at once. MERGES counts each merge. An AOC WRITE holds both under one WRT record with two pieces outstanding; a posted one
is answered OK. R14: the entries of an AOC WRITE's lines whose held list is full close first for HELD_LIMIT, the lower line's
first, and the take goes on as from the state after those closes. The last clause holds where no line has two GATHERING
entries (R3, GatherLaw). -/
def Obligations.TwoPieceWriteOpensTwoEntries : Prop :=
  (∀ (time : Nat) (q : Request) (p₁ p₂ : Span) (i j : Fin 32) (w : Fin 16) (s : State),
    s.held = false → s.rqp.intake ++ s.rqp.link = [q] → q.kind = .write → judge s q = .passes →
    ruleFor s.ord q = none → requestSpans q = [p₁, p₂] → gatheringOf s.lat p₁.line = none →
    gatheringOf s.lat p₂.line = none → s.lat.entries.get i = none → s.lat.entries.get j = none → i < j →
    (∀ k : Fin 32, k < j → k ≠ i → (s.lat.entries.get k).isSome = true) →
    (q.aoc = true → lowestFreeWrt s.rqp = some w) →
    ∃ t e₁ e₂, exec (.take time) s = .next t ∧
      t.lat = { s.lat with entries := (s.lat.entries.set i (some e₁)).set j (some e₂) } ∧
      e₁.line = p₁.line ∧ e₂.line = p₁.line + 64 ∧
      (∀ k, e₁.cells.get k = if spanHolds p₁ k then .written (spanByte p₁ q.data k) else .unset) ∧
      (∀ k, e₂.cells.get k = if spanHolds p₂ k then .written (spanByte p₂ q.data k) else .unset) ∧
      (∀ e ∈ [e₁, e₂], e.state = .gathering ∧ e.held = (if q.aoc then [w] else []) ∧ e.barrier = none ∧
        e.lastMerge = max s.now time ∧ ∀ r, e.contributors.has r = decide (r = q.requester)) ∧
      t.rqp.intake ++ t.rqp.link = [] ∧
      t.rqp.tags = (if q.aoc then s.rqp.tags ++ [(q.requester, q.tag)] else s.rqp.tags) ∧
      t.rqp.wrt = (if q.aoc then
          s.rqp.wrt.set w (some { requester := q.requester, tag := q.tag, outstanding := 2, worst := .ok })
        else s.rqp.wrt) ∧
      t = { s with
        rqp := t.rqp, lat := t.lat, starvation := t.starvation, now := max s.now time,
        out := if q.aoc then s.out
          else { s.out with responses := s.out.responses ++
            [{ requester := q.requester, tag := q.tag, status := .ok, data := [] }] } }) ∧
  (∀ (time : Nat) (q : Request) (p₁ p₂ : Span) (i j : Fin 32) (w : Fin 16) (s : State),
    s.held = false → s.rqp.intake ++ s.rqp.link = [q] → q.kind = .write → judge s q = .passes →
    ruleFor s.ord q = none → requestSpans q = [p₁, p₂] →
    gatheringOf s.lat p₁.line = some i ∨ (gatheringOf s.lat p₁.line = none ∧ s.lat.entries.get i = none ∧
      ∀ k : Fin 32, k < i → (s.lat.entries.get k).isSome = true) →
    gatheringOf s.lat p₂.line = some j ∨ (gatheringOf s.lat p₂.line = none ∧ s.lat.entries.get j = none ∧ j ≠ i ∧
      ∀ k : Fin 32, k < j → k ≠ i → (s.lat.entries.get k).isSome = true) →
    (q.aoc = true → lowestFreeWrt s.rqp = some w ∧
      ∀ k ∈ [i, j], ∀ e, s.lat.entries.get k = some e → e.held.length < 4) →
    ∃ t e₁ e₂, exec (.take time) s = .next t ∧
      t.lat = { s.lat with
        entries := (s.lat.entries.set i (some e₁)).set j (some e₂),
        issueQueue := s.lat.issueQueue ++ (if cellsFull e₁.cells then [i] else []) ++
          (if cellsFull e₂.cells then [j] else []) } ∧
      PiecePlaced s q w p₁ (max s.now time) (s.lat.entries.get i) e₁ ∧
      PiecePlaced s q w p₂ (max s.now time) (s.lat.entries.get j) e₂ ∧
      (cellsFull e₁.cells = true → cellsFull e₂.cells = true →
        ∀ m n, e₁.closeNumber = some m → e₂.closeNumber = some n → m < n) ∧
      t.nu = { s.nu with counters := { s.nu.counters with
        merges := countUp^[[i, j].countP (fun k => (s.lat.entries.get k).isSome)] s.nu.counters.merges } } ∧
      t.rqp.intake ++ t.rqp.link = [] ∧
      t.rqp.tags = (if q.aoc then s.rqp.tags ++ [(q.requester, q.tag)] else s.rqp.tags) ∧
      t.rqp.wrt = (if q.aoc then
          s.rqp.wrt.set w (some { requester := q.requester, tag := q.tag, outstanding := 2, worst := .ok })
        else s.rqp.wrt) ∧
      t = { s with
        rqp := t.rqp, lat := t.lat, starvation := t.starvation, nu := t.nu, now := max s.now time,
        out := if q.aoc then s.out
          else { s.out with responses := s.out.responses ++
            [{ requester := q.requester, tag := q.tag, status := .ok, data := [] }] } }) ∧
  ∀ (time : Nat) (q : Request) (p₁ p₂ : Span) (full : List (Fin 32)) (s : State),
    s.held = false → GatherLaw s → s.rqp.intake ++ s.rqp.link = [q] → q.kind = .write → q.aoc = true →
    judge s q = .passes → ruleFor s.ord q = none → requestSpans q = [p₁, p₂] →
    full = ([p₁, p₂].filterMap (fun p => gatheringOf s.lat p.line)).filter
      (fun k => entryIs (fun e => decide (4 ≤ e.held.length)) (s.lat.entries.get k)) →
    ∃ u, exec (.take time) s = exec (.take time) u ∧ u = { s with lat := u.lat } ∧
      u.lat.issueQueue = s.lat.issueQueue ++ full ∧ u.lat.evictMark = s.lat.evictMark ∧
      (∀ k, k ∉ full → u.lat.entries.get k = s.lat.entries.get k) ∧
      (∀ k ∈ full, ∀ e, s.lat.entries.get k = some e → ∃ n,
        u.lat.entries.get k = some { e with state := .closed, closeNumber := some n, deadline := none } ∧
        ∀ j x m, s.lat.entries.get j = some x → x.closeNumber = some m → m < n) ∧
      ∀ k l e f m n, full = [k, l] → u.lat.entries.get k = some e → u.lat.entries.get l = some f →
        e.closeNumber = some m → f.closeNumber = some n → m < n

/-- R4, R141, R15, R16: a head that lacks a read context, a WRT record or FREE entries stays in the Intake Queue. A WRITE
needs a FREE entry for each piece without a merge target and, under a release rule, for every piece. A WRITE short of FREE
entries, of one piece or two, posted or AOC, with or without a WRT record, evicts the GATHERING entry with the oldest last
merge time, the lowest index among equals, leaving out its own merge targets; it closes nothing where no such entry is left or
an eviction is outstanding. R14: for an AOC WRITE the entries of its lines with a full held list close first for HELD_LIMIT,
lower line first, and the act goes on as from the state after those closes, where no line has two GATHERING entries (R3,
GatherLaw). -/
def Obligations.HeadWithoutResourcesWaits : Prop :=
  ∀ (time : Nat) (q : Request) (rest : List Request) (targets full : List (Fin 32)) (s : State), s.held = false →
    s.rqp.intake ++ s.rqp.link = q :: rest → judge s q = .passes →
    targets = (if (ruleFor s.ord q).isSome then []
      else (requestSpans q).filterMap (fun p => gatheringOf s.lat p.line)) →
    full = targets.filter (fun i => entryIs (fun e => decide (4 ≤ e.held.length)) (s.lat.entries.get i)) →
    (q.kind = .read → (∀ c, (s.rdp.contexts.get c).isSome = true) → ∃ t, exec (.take time) s = .next t ∧
      t.rqp.intake ++ t.rqp.link = q :: rest ∧ t.rqp.tags = s.rqp.tags ∧ t.rqp.wrt = s.rqp.wrt ∧
      t = { s with rqp := t.rqp, starvation := t.starvation, now := max s.now time }) ∧
    (q.kind = .write → q.aoc = true → (∀ w, (s.rqp.wrt.get w).isSome = true) → ∃ t, exec (.take time) s = .next t ∧
      t.rqp.intake ++ t.rqp.link = q :: rest ∧ t.rqp.tags = s.rqp.tags ∧ t.rqp.wrt = s.rqp.wrt ∧
      (∀ i, (t.lat.entries.get i).isSome = (s.lat.entries.get i).isSome) ∧
      (full = [] → (requestSpans q).length ≤
        targets.length + (List.finRange 32).countP (fun i => (s.lat.entries.get i).isNone) → t.lat = s.lat) ∧
      t = { s with rqp := t.rqp, lat := t.lat, starvation := t.starvation, now := max s.now time }) ∧
    (q.kind = .write → (q.aoc = true → full = []) →
      targets.length + (List.finRange 32).countP (fun i => (s.lat.entries.get i).isNone) < (requestSpans q).length →
      ∃ t, exec (.take time) s = .next t ∧
        t.rqp.intake ++ t.rqp.link = q :: rest ∧ t.rqp.tags = s.rqp.tags ∧ t.rqp.wrt = s.rqp.wrt ∧
        t = { s with rqp := t.rqp, lat := t.lat, starvation := t.starvation, now := max s.now time } ∧
        (s.lat.evictMark.isSome = true → t.lat = s.lat) ∧
        ((∀ i e, s.lat.entries.get i = some e → e.state = .gathering → i ∈ targets) → t.lat = s.lat) ∧
        (∀ i e, s.lat.evictMark = none → s.lat.entries.get i = some e → e.state = .gathering → i ∉ targets →
          (∀ j x, s.lat.entries.get j = some x → x.state = .gathering → j ∉ targets →
            e.lastMerge < x.lastMerge ∨ (e.lastMerge = x.lastMerge ∧ i ≤ j)) →
          ∃ n, t.lat =
            { entries := s.lat.entries.set i
                (some { e with state := .closed, closeNumber := some n, deadline := none }),
              issueQueue := s.lat.issueQueue ++ [i], evictMark := some i } ∧
            ∀ j x m, s.lat.entries.get j = some x → x.closeNumber = some m → m < n)) ∧
    (GatherLaw s → q.kind = .write → q.aoc = true → ∃ u, exec (.take time) s = exec (.take time) u ∧
      u = { s with lat := u.lat } ∧ ClosedInTurn full s.lat u.lat ∧
      u.lat.issueQueue = s.lat.issueQueue ++ full ∧ u.lat.evictMark = s.lat.evictMark ∧
      ∀ k, k ∉ full → u.lat.entries.get k = s.lat.entries.get k)

/-- R54 to R58, R17, R142: a WRITE under rule `k`, of one piece or two, posted or AOC, closes the GATHERING entries of its
lines, lower line first, and then those of the scope in ascending index; they stay with their bytes and take ascending close
numbers, and every other entry is as it was. R18: each piece opens the lowest-index FREE entry in CLOSED at the tail of the
Issue Queue, the lower line first, with the newest close number, and every piece's barrier waits for the scope as it stood. -/
def Obligations.ReleaseWriteMakesABarrierEntry : Prop :=
  ∀ (time : Nat) (q : Request) (k : Fin 8) (r : ReleaseRule) (w : Fin 16) (own named free : List (Fin 32)) (s : State),
    s.held = false → GatherLaw s → s.rqp.intake ++ s.rqp.link = [q] → q.kind = .write →
    judge s q = .passes → ruleFor s.ord q = some k → s.ord.rules.get k = some r →
    own = (requestSpans q).filterMap (fun p => gatheringOf s.lat p.line) →
    named = (List.finRange 32).filter (fun j => entryIs (fun x => isGathering x && inScope r.scope q.requester x)
      (s.lat.entries.get j) && !own.contains j) →
    free = ((List.finRange 32).filter (fun j => (s.lat.entries.get j).isNone)).take (requestSpans q).length →
    free.length = (requestSpans q).length → (q.aoc = true → lowestFreeWrt s.rqp = some w) →
    ∃ t b, exec (.take time) s = .next t ∧
      b.rule = k ∧ b.suppress = r.suppress ∧ b.failed = false ∧
      (∀ j, b.predecessors.has j = entryIs (inScope r.scope q.requester) (s.lat.entries.get j)) ∧
      (∀ x ∈ free.zip (requestSpans q), ∃ e, t.lat.entries.get x.1 = some e ∧
        e.state = .closed ∧ e.line = x.2.line ∧ e.deadline = none ∧ e.fill = none ∧ e.barrier = some b ∧
        e.held = (if q.aoc then [w] else []) ∧ (∀ who, e.contributors.has who = decide (who = q.requester)) ∧
        (∀ n, e.cells.get n = if spanHolds x.2 n then .written (spanByte x.2 q.data n) else .unset) ∧
        ∃ n, e.closeNumber = some n ∧ ∀ j y m, s.lat.entries.get j = some y → y.closeNumber = some m → m < n) ∧
      t.lat.issueQueue = s.lat.issueQueue ++ own ++ named ++ free ∧
      ClosedInTurn (own ++ named) s.lat t.lat ∧
      (∀ i ∈ own ++ named, ∀ j ∈ free, ∀ e f m n, t.lat.entries.get i = some e → t.lat.entries.get j = some f →
        e.closeNumber = some m → f.closeNumber = some n → m < n) ∧
      free.Pairwise (fun i j => ∀ e f m n, t.lat.entries.get i = some e → t.lat.entries.get j = some f →
        e.closeNumber = some m → f.closeNumber = some n → m < n) ∧
      (∀ j, j ∉ own ++ named ++ free → t.lat.entries.get j = s.lat.entries.get j) ∧
      (∀ j x, t.lat.entries.get j = some x → x.state = .gathering →
        (∀ p ∈ requestSpans q, x.line ≠ p.line) ∧ inScope r.scope q.requester x = false ∧
        s.lat.entries.get j = some x) ∧
      t.lat.evictMark = s.lat.evictMark ∧
      t.nu = (if r.note then postToNu (.releaseNote k q.requester q.address (q.data.take (min 8 q.length.val))) s.nu
        else s.nu) ∧
      t.rqp.intake ++ t.rqp.link = [] ∧
      t.rqp.tags = (if q.aoc then s.rqp.tags ++ [(q.requester, q.tag)] else s.rqp.tags) ∧
      t.rqp.wrt = (if q.aoc then
          s.rqp.wrt.set w (some { requester := q.requester, tag := q.tag, outstanding := (requestSpans q).length,
                                  worst := .ok })
        else s.rqp.wrt) ∧
      t = { s with
        rqp := t.rqp, lat := t.lat, starvation := t.starvation, nu := t.nu, now := max s.now time,
        out := if q.aoc then s.out
          else { s.out with responses := s.out.responses ++
            [{ requester := q.requester, tag := q.tag, status := .ok, data := [] }] } }

/-- R17, R63, R64: a SYNC closes its requester's GATHERING entries in ascending index, which stay with their bytes and join the
Issue Queue, and waits for every entry with its bytes; while another is outstanding it is answered BUSY and changes nothing
else. That a SYNC without entries is listed for its response is the model's order list (log entry 6). -/
def Obligations.SyncWaitsForItsRequestersEntries : Prop :=
  ∀ (time : Nat) (q : Request) (s : State),
    s.held = false → s.rqp.intake ++ s.rqp.link = [q] → q.kind = .sync → judge s q = .passes →
    (s.ord.sync.get q.requester = none → ∃ t x, exec (.take time) s = .next t ∧
      t.ord = { s.ord with
        sync := s.ord.sync.set q.requester (some x),
        syncReady := if x.waitSet.isEmpty then s.ord.syncReady ++ [q.requester] else s.ord.syncReady } ∧
      x.tag = q.tag ∧
      (∀ j, x.waitSet.has j = entryIs (fun e => e.contributors.has q.requester) (s.lat.entries.get j)) ∧
      (∀ j e, t.lat.entries.get j = some e → e.state = .gathering →
        e.contributors.has q.requester = false ∧ s.lat.entries.get j = some e) ∧
      ClosedInOrder (fun e => e.contributors.has q.requester) s.lat t.lat ∧
      t.rqp.tags = s.rqp.tags ++ [(q.requester, q.tag)] ∧ t.rqp.wrt = s.rqp.wrt ∧ t.rqp.intake ++ t.rqp.link = [] ∧
      t = { s with rqp := t.rqp, lat := t.lat, ord := t.ord, starvation := t.starvation, now := max s.now time }) ∧
    ((s.ord.sync.get q.requester).isSome = true → ∃ t, exec (.take time) s = .next t ∧
      t.rqp.intake ++ t.rqp.link = [] ∧ t.rqp.tags = s.rqp.tags ∧ t.rqp.wrt = s.rqp.wrt ∧
      t = { s with
        rqp := t.rqp, starvation := t.starvation, now := max s.now time,
        out := { s.out with responses := s.out.responses ++
          [{ requester := q.requester, tag := q.tag, status := .busy, data := [] }] } })

/-- R71 to R76: a READ opens the FREE context with the lowest index. Each piece that pending bytes cover is forwarded, each
other piece of an uninitialised line is answered from the pattern with the pending bytes over it, and every remaining piece is
left WAITING for memory. The list `t.rdp.ready` is the model's order list (log entry 6), and that a byte of the buffer not
yet resolved holds no value is log entry 26. -/
def Obligations.ReadTakeResolvesItsPieces : Prop :=
  ∀ (time : Nat) (q : Request) (c : Fin 16) (s : State),
    s.held = false → s.rqp.intake ++ s.rqp.link = [q] → q.kind = .read → judge s q = .passes →
    lowestFreeContext s.rdp = some c →
    ∃ t x, exec (.take time) s = .next t ∧ t.rdp.contexts = s.rdp.contexts.set c (some x) ∧
      x.requester = q.requester ∧ x.tag = q.tag ∧ x.address = q.address ∧ x.length = q.length.val ∧ x.worst = .ok ∧
      (∀ d y, s.rdp.contexts.get d = some y → y.age < x.age) ∧
      x.pieces = (requestSpans q).map (fun p =>
        { span := p, state := if covered s p ∨ (uninitialisedPattern s.rsw p.line).isSome = true then .done .ok
                              else .waiting }) ∧
      x.buffer = (requestSpans q).flatMap (fun p =>
        if covered s p then (spanOffsets p).map (pendingByte s p)
        else match uninitialisedPattern s.rsw p.line with
          | some pattern => (spanOffsets p).map (fun k => some ((pendingByte s p k).getD (patternByte pattern k)))
          | none => (spanOffsets p).map (fun _ => none)) ∧
      t.rdp.ready = (if (requestSpans q).all (fun p => covered s p || (uninitialisedPattern s.rsw p.line).isSome)
        then s.rdp.ready ++ [c] else s.rdp.ready) ∧
      t.nu = { s.nu with counters := { s.nu.counters with
        forwardedReads := countUp^[(requestSpans q).countP (covered s)] s.nu.counters.forwardedReads,
        patternReads := countUp^[(requestSpans q).countP (fun p =>
          !covered s p && (uninitialisedPattern s.rsw p.line).isSome)] s.nu.counters.patternReads } } ∧
      t.rqp.tags = s.rqp.tags ++ [(q.requester, q.tag)] ∧ t.rqp.wrt = s.rqp.wrt ∧ t.rqp.intake ++ t.rqp.link = [] ∧
      t = { s with rqp := t.rqp, rdp := t.rdp, nu := t.nu, starvation := t.starvation, now := max s.now time }

/-- R84, R134: the oldest completed context is answered once with its worst status and its bytes, and becomes FREE; the head
is then judged (R136, R141). The order list is the model's (log entry 6), and that READ_RESPONSE changes nothing while it is
empty is log entry 3. -/
def Obligations.ReadResponseAnswersAContext : Prop :=
  ∀ s : State, s.held = false →
    (s.rdp.ready = [] → exec .readResponse s = .next s) ∧
    (∀ c rest x, s.rdp.ready = c :: rest → s.rdp.contexts.get c = some x →
      ∃ t, exec .readResponse s = .next t ∧
        t.out = { s.out with responses := s.out.responses ++
          [{ requester := x.requester, tag := x.tag, status := readResponseStatus x.worst,
             data := bufferBytes x.buffer }] } ∧
        t.rdp = { contexts := s.rdp.contexts.set c none, ready := rest } ∧
        t.rqp = { s.rqp with tags := s.rqp.tags.filter (fun p => p != (x.requester, x.tag)) } ∧
        t.ord = s.ord ∧ t.rsw = s.rsw ∧ t.mp = s.mp ∧ t.mli = s.mli ∧
        t.lat = judgedLat s.rqp.intake.head? { s with rqp := t.rqp } ∧
        (s.mc.mode ≠ .draining → t.mc = s.mc ∧ t.nu = s.nu) ∧ (s.mc.mode ≠ .online → t.lat = s.lat))

/-- R65, R66: the SYNC response reports the requester's failure flag and clears that flag alone. The order list is the model's
(log entry 6), and that SYNC_RESPONSE changes nothing while it is empty is log entry 3. -/
def Obligations.SyncResponseReportsTheFailureFlag : Prop :=
  ∀ s : State, s.held = false →
    (s.ord.syncReady = [] → exec .syncResponse s = .next s) ∧
    (∀ r rest x, s.ord.syncReady = r :: rest → s.ord.sync.get r = some x →
      ∃ t, exec .syncResponse s = .next t ∧
        t.out = { s.out with responses := s.out.responses ++
          [{ requester := r, tag := x.tag, status := if s.ord.flags.has r then .writeFailed else .ok, data := [] }] } ∧
        t.ord.flags.has r = false ∧ (∀ q, q ≠ r → t.ord.flags.has q = s.ord.flags.has q) ∧
        t.ord.sync = s.ord.sync.set r none ∧ t.ord.syncReady = rest ∧ t.ord.rules = s.ord.rules ∧
        t.ord.discards = s.ord.discards ∧
        t.rqp = { s.rqp with tags := s.rqp.tags.filter (fun p => p != (r, x.tag)) } ∧
        t.lat = s.lat ∧ t.rdp = s.rdp ∧ t.rsw = s.rsw ∧ t.mp = s.mp ∧ t.mli = s.mli ∧
        (s.mc.mode ≠ .draining → t.mc = s.mc ∧ t.nu = s.nu))

/-! ## Slots and the memory link -/

/-- R118, R119, R106: without a FREE slot or a claim a GRANT changes nothing but the time; a grant to the SWEEP class puts the
region's pattern line on the lowest FREE slot and passes the turn to WRITE. That a GRANT with nothing to give still is an
event that moves the time is the model's choice (log entries 3 and 2). -/
def Obligations.GrantServesTheSweep : Prop :=
  ∀ (time : Nat) (s : State), s.held = false →
    (lowestFreeSlot s.mp = none ∨ grantedClass s = none →
      exec (.grant time) s = .next { s with now := max s.now time }) ∧
    (∀ n k line info, lowestFreeSlot s.mp = some n → grantedClass s = some .sweep →
      s.rsw.engine = .ready k line → (s.rsw.regions.get k).info = some info →
      ∃ t data, exec (.grant time) s = .next t ∧
        t.mp = { s.mp with
          slots := s.mp.slots.set n
            (.busy .sweepEngine line false (max s.now time + s.mli.items.memoryTimeout.toNat)),
          sendOrder := s.mp.sendOrder ++ [.lineWrite n line data], turn := .write } ∧
        (∀ b : Fin 64, data.get b = info.pattern.get ⟨b.val % 8, Nat.mod_lt _ (by decide)⟩) ∧
        t = { s with
          mp := t.mp, rsw := { s.rsw with engine := .writing k line }, starvation := t.starvation,
          now := max s.now time })

/-- R26 to R32, R100, R105, R119, R120: a grant to the WRITE class issues the oldest eligible entry on the lowest FREE slot with
the fill its line and byte set ask for. PATTERN fill inserts an IN_FLIGHT record in ascending line order, and NONE and FETCH
leave the Ahead List. An engine READY for the line becomes BLOCKED, one that paces goes on below SWEEP_URGENT_LEVEL and
evaluates from that level on (R108, R109), and any other is as it was. -/
def Obligations.GrantIssuesTheOldestEligibleEntry : Prop :=
  ∀ (time : Nat) (n : Fin 16) (i : Fin 32) (e : Entry) (s : State),
    s.held = false → lowestFreeSlot s.mp = some n → grantedClass s = some .write → firstEligible s = some i →
    s.lat.entries.get i = some e →
    ∃ t e' owner request ahead, exec (.grant time) s = .next t ∧
      t.lat = { s.lat with
        entries := s.lat.entries.set i (some e'), issueQueue := s.lat.issueQueue.filter (fun j => j != i) } ∧
      t.mp = { s.mp with
        slots := s.mp.slots.set n (.busy owner e.line false (max s.now time + s.mli.items.memoryTimeout.toNat)),
        sendOrder := s.mp.sendOrder ++ [request], turn := .read } ∧
      (cellsFull e.cells = true →
        e' = { e with state := .writing, fill := some .none } ∧ owner = .writeOf i ∧
        request = .lineWrite n e.line (lineData e.cells) ∧ ahead = s.rsw.ahead) ∧
      (cellsFull e.cells = false → uninitialisedPattern s.rsw e.line = none →
        e' = { e with state := .fetching, fill := some .fetch } ∧ owner = .fetchOf i ∧ request = .lineRead n e.line ∧
        ahead = s.rsw.ahead) ∧
      (∀ pattern, cellsFull e.cells = false → uninitialisedPattern s.rsw e.line = some pattern →
        e' = { e with state := .writing, fill := some .pattern, cells := e'.cells } ∧
        (∀ k, e'.cells.get k = match e.cells.get k with
          | .written b => .written b
          | _ => .filled (patternByte pattern k)) ∧
        owner = .writeOf i ∧ request = .lineWrite n e.line (lineData e'.cells) ∧
        ∃ k, regionOf s.rsw e.line = some k ∧
          ahead = insertAhead { line := e.line, region := k, state := .inFlight } s.rsw.ahead) ∧
      (∀ k, s.rsw.engine = .ready k e.line → t.rsw = { s.rsw with ahead := ahead, engine := .blocked k e.line }) ∧
      ((∀ k, s.rsw.engine ≠ .ready k e.line) → (∀ u, s.rsw.engine ≠ .pacing u) →
        t.rsw = { s.rsw with ahead := ahead }) ∧
      ((∀ u, s.rsw.engine ≠ .pacing u) → t.nu = s.nu) ∧
      (∀ u, s.rsw.engine = .pacing u → ahead.length < s.mli.items.sweepUrgentLevel.toNat → ahead.length < 48 →
        t.rsw = { s.rsw with ahead := ahead } ∧ t.nu = s.nu) ∧
      (∀ u, s.rsw.engine = .pacing u → s.mli.items.sweepUrgentLevel.toNat ≤ ahead.length →
        SweepEvaluated { s.rsw with ahead := ahead } s.mc.mode t) ∧
      t.rqp = s.rqp ∧ t.rdp = s.rdp ∧ t.ord = s.ord ∧ t.mc = s.mc ∧ t.mli = s.mli ∧ t.out = s.out ∧
      t.now = max s.now time ∧
      t = { s with rsw := t.rsw, lat := t.lat, mp := t.mp, nu := t.nu, starvation := t.starvation, now := t.now }

/-- R74, R75, R77, R78, R119, R105: a grant to the READ class goes through the candidates, oldest first. Those before the
first that needs memory, the list `before`, become DONE with their forwarded or pattern bytes and are counted; the first that
needs memory receives the slot, and an engine READY for its line becomes BLOCKED. When none needs memory the slot stays FREE.
The turn passes on. The list `t.rdp.ready` is the model's (log entry 6). -/
def Obligations.GrantServesTheOldestWaitingPiece : Prop :=
  ∀ (time : Nat) (n : Fin 16) (before rest : List (Fin 16 × Nat × Span)) (s : State),
    s.held = false → lowestFreeSlot s.mp = some n → grantedClass s = some .read →
    readCandidates s = before ++ rest → (∀ x ∈ before, resolve s x.2.2 ≠ .memory) →
    (∀ x, rest.head? = some x → resolve s x.2.2 = .memory) →
    ∃ t more, exec (.grant time) s = .next t ∧
      (∀ c i p, rest.head? = some (c, i, p) → t.mp = { s.mp with
        slots := s.mp.slots.set n
          (.busy (.readOf c i) p.line false (max s.now time + s.mli.items.memoryTimeout.toNat)),
        sendOrder := s.mp.sendOrder ++ [.lineRead n p.line], turn := .sweep }) ∧
      (rest = [] → t.mp = { s.mp with turn := .sweep }) ∧
      (∀ c, s.rdp.contexts.get c = none → t.rdp.contexts.get c = none) ∧
      (∀ c x, s.rdp.contexts.get c = some x → t.rdp.contexts.get c = some { x with
        pieces := x.pieces.zipIdx.map (fun yi =>
          if (c, yi.2, yi.1.span) ∈ before then { yi.1 with state := .done .ok }
          else if rest.head? = some (c, yi.2, yi.1.span) then { yi.1 with state := .reading }
          else yi.1),
        buffer := (before.filter (fun b => b.1 == c)).foldl (fun buffer b => writeBuffer buffer b.2.2.pos
          ((spanOffsets b.2.2).map (fun k => (pendingByte s b.2.2 k).getD
            (match uninitialisedPattern s.rsw b.2.2.line with
             | some pattern => patternByte pattern k
             | none => 0#8)))) x.buffer }) ∧
      t.rdp.ready = s.rdp.ready ++ more ∧ more.Nodup ∧
      (∀ c, c ∈ more ↔ (∃ b ∈ before, b.1 = c) ∧ ∃ z, t.rdp.contexts.get c = some z ∧ z.pieces.all pieceDone = true) ∧
      t.nu.counters.forwardedReads = countUp^[before.countP (fun b => covered s b.2.2)] s.nu.counters.forwardedReads ∧
      t.nu.counters.patternReads = countUp^[before.countP (fun b => !covered s b.2.2)] s.nu.counters.patternReads ∧
      ((∀ u, s.rsw.engine ≠ .pacing u) →
        t.nu = { s.nu with counters := { s.nu.counters with
          forwardedReads := t.nu.counters.forwardedReads, patternReads := t.nu.counters.patternReads } } ∧
        (∀ k line, rest.head?.map (fun x => x.2.2.line) = some line → s.rsw.engine = .ready k line →
          t.rsw = { s.rsw with engine := .blocked k line }) ∧
        ((∀ k line, s.rsw.engine = .ready k line → rest.head?.map (fun x => x.2.2.line) ≠ some line) →
          t.rsw = s.rsw)) ∧
      t = { s with
        rdp := t.rdp, mp := t.mp, rsw := t.rsw, nu := t.nu, starvation := t.starvation, now := max s.now time }

/-- R114: the link accepts the head of the send order and its slot is marked as sent; with nothing prepared there is nothing
to accept, so that the event changes nothing (the model's choice, log entry 3). -/
def Obligations.LinkAcceptsTheHeadOfTheSendOrder : Prop :=
  ∀ s : State, s.held = false →
    (s.mp.sendOrder = [] → exec .memoryLinkAccept s = .next s) ∧
    (∀ m rest, s.mp.sendOrder = m :: rest →
      ∃ t, exec .memoryLinkAccept s = .next t ∧
        t = { s with mp := { s.mp with sendOrder := rest, slots := t.mp.slots },
                     out := { s.out with memory := s.out.memory ++ [m] } } ∧
        (∀ i, i ≠ memoryRequestSlot m → t.mp.slots.get i = s.mp.slots.get i) ∧
        t.mp.slots.get (memoryRequestSlot m) = match s.mp.slots.get (memoryRequestSlot m) with
          | .free => .free
          | .busy owner line _ deadline => .busy owner line true deadline
          | .orphaned purpose line _ => .orphaned purpose line true)

/-- R122: a response for a slot that is FREE, or whose request is not yet sent, is discarded and reported, and changes nothing
else. -/
def Obligations.StrayResponseIsOnlyReported : Prop :=
  ∀ (time : Nat) (r : MemoryResponse) (s : State), s.held = false →
    (s.mp.slots.get r.slot = .free ∨ (∃ o l d, s.mp.slots.get r.slot = .busy o l false d) ∨
      ∃ p l, s.mp.slots.get r.slot = .orphaned p l false) →
    exec (.memoryResponse time r) s =
      .next { s with nu := postToNu (.strayResponse r.slot) s.nu, now := max s.now time }

/-- R123, R105: a late response is counted in LATE_RESPONSES and reported, and frees its slot; no owner is told. The claim on
the line ends: an engine BLOCKED on it evaluates afresh, a pacing goes on unless the sweep is urgent (R108, R109), and any
other engine is as it was. That LATE_RESPONSE stands before a SWEEP_DONE that the ended claim brings is the model's choice
(log entry 13, DESIGN CHOICE, unsafe). -/
def Obligations.LateResponseFreesItsSlot : Prop :=
  ∀ (time : Nat) (r : MemoryResponse) (purpose : Purpose) (line : Nat) (s : State), s.held = false →
    s.mp.slots.get r.slot = .orphaned purpose line true →
    ∃ t, exec (.memoryResponse time r) s = .next t ∧
      t.mp = { s.mp with slots := s.mp.slots.set r.slot .free, stallMark := false } ∧
      t.lat = s.lat ∧ t.rqp = s.rqp ∧ t.rdp = s.rdp ∧ t.ord = s.ord ∧ t.mc = s.mc ∧ t.mli = s.mli ∧ t.out = s.out ∧
      t.now = max s.now time ∧
      t.nu.counters.lateResponses = countUp s.nu.counters.lateResponses ∧
      (s.nu.queue.length < 32 → ∃ later, t.nu.queue =
        s.nu.queue ++ { seq := s.nu.seq, body := .lateResponse r.slot line purpose } :: later) ∧
      (32 ≤ s.nu.queue.length → t.nu.queue = s.nu.queue) ∧
      ClaimEndIsFound s.rsw s.mc.mode line t ∧
      ((s.rsw.engine = .idle ∨ (∃ k l, s.rsw.engine = .ready k l) ∨ ∃ k l, s.rsw.engine = .writing k l) →
        t.rsw = s.rsw ∧
        t.nu = postToNu (.lateResponse r.slot line purpose)
          { s.nu with counters := { s.nu.counters with lateResponses := countUp s.nu.counters.lateResponses } })

/-- R33: a fetch's data completes the bytes outside the byte set, and the entry's LINE_WRITE is prepared on the same slot with
a new deadline. -/
def Obligations.FetchIsMergedAndWritten : Prop :=
  ∀ (time : Nat) (r : MemoryResponse) (bytes : Table Byte 64) (i : Fin 32) (e : Entry) (line deadline : Nat) (s : State),
    s.held = false → s.mp.slots.get r.slot = .busy (.fetchOf i) line true deadline → s.lat.entries.get i = some e →
    r.data = some bytes → (r.status = 0#2 ∨ r.status = 1#2) →
    ∃ t cells, exec (.memoryResponse time r) s = .next t ∧
      (∀ k, cells.get k = match e.cells.get k with
        | .written b => .written b
        | _ => .filled (bytes.get k)) ∧
      t = { s with
        lat := { s.lat with
          entries := s.lat.entries.set i (some { e with state := .writing, cells := cells }) },
        mp := { s.mp with
          slots := s.mp.slots.set r.slot
            (.busy (.writeOf i) line false (max s.now time + s.mli.items.memoryTimeout.toNat)),
          sendOrder := s.mp.sendOrder ++ [.lineWrite r.slot line (lineData cells)] },
        nu := (if r.status = 1#2 then
            { s.nu with counters := { s.nu.counters with correctedReads := countUp s.nu.counters.correctedReads } }
          else s.nu),
        now := max s.now time }

/-- R37, R41 to R45, R101, R105, R144: a write answered DONE or DONE_CORRECTED ends its entry COMPLETED: the slot and the entry
become FREE, the fill is counted, no flag is set, the held acknowledgements count down with OK, the index leaves every wait
set and predecessor set, and the line's IN_FLIGHT record becomes WRITTEN. The head is then judged (R136). -/
def Obligations.WriteCompletesItsEntry : Prop :=
  ∀ (time : Nat) (r : MemoryResponse) (i : Fin 32) (e : Entry) (line deadline : Nat) (s : State),
    s.held = false → s.mp.slots.get r.slot = .busy (.writeOf i) line true deadline → s.lat.entries.get i = some e →
    (r.status = 0#2 ∨ r.status = 1#2) →
    ∃ t, exec (.memoryResponse time r) s = .next t ∧ t.lat.entries.get i = none ∧
      t.mp = { s.mp with slots := s.mp.slots.set r.slot .free, stallMark := false } ∧
      t.ord.flags = s.ord.flags ∧ t.ord.rules = s.ord.rules ∧ t.rdp = s.rdp ∧ t.mli = s.mli ∧
      (∀ q, t.ord.sync.get q =
        (s.ord.sync.get q).map (fun x => { x with waitSet := x.waitSet.erase i })) ∧
      (e.fill = some .none → t.nu.counters.wholeWrites = countUp s.nu.counters.wholeWrites) ∧
      (e.fill = some .fetch → t.nu.counters.fetchWrites = countUp s.nu.counters.fetchWrites) ∧
      (e.fill = some .pattern → t.nu.counters.patternWrites = countUp s.nu.counters.patternWrites) ∧
      EndIsTold s t i e false .ok ∧
      ClaimEndIsFound { s.rsw with ahead := aheadAfterEnd e true s.rsw.ahead } s.mc.mode line t

/-- R34, R35, R38, R39, R42 to R46, R101, R144: a fault or a deadline of an entry's fetch or write ends the entry, sets the
failure flag of every contributor and of no other requester, counts its held acknowledgements down with WRITE_FAILED or
TIMEOUT, marks the barriers and the FLUSH that waited for it, and posts the notice of the end. A failed write's IN_FLIGHT
record is removed, and the head is then judged (R136). After a response the slot is FREE and its claim has ended. That the
notice stands before a MEMORY_STALLED of the same SLOT_DEADLINE is the model's choice (log entry 13, DESIGN CHOICE, unsafe).
-/
def Obligations.FailedEntrySetsFlagsAndReports : Prop :=
  ∀ (c : Instr) (body : NoticeBody) (status : HeldStatus) (sweep : Rsw) (i : Fin 32) (e : Entry) (s : State),
    s.held = false → s.lat.entries.get i = some e →
    ((∃ time r line deadline, c = .memoryResponse time r ∧
        s.mp.slots.get r.slot = .busy (.fetchOf i) line true deadline ∧
        (memoryStatusOf r.status = .dataFault ∨ r.data = none) ∧ status = .writeFailed ∧ sweep = s.rsw ∧
        body = .writeLost e.line e.contributors .fetchFault) ∨
     (∃ time r line deadline, c = .memoryResponse time r ∧
        s.mp.slots.get r.slot = .busy (.writeOf i) line true deadline ∧ memoryStatusOf r.status = .dataFault ∧
        status = .writeFailed ∧ sweep = { s.rsw with ahead := aheadAfterEnd e false s.rsw.ahead } ∧
        body = .writeLost e.line e.contributors .writeFault) ∨
     (∃ slot line sent deadline, c = .slotDeadline slot ∧
        s.mp.slots.get slot = .busy (.fetchOf i) line sent deadline ∧ status = .writeFailed ∧ sweep = s.rsw ∧
        body = .writeLost e.line e.contributors .fetchTimeout) ∨
     (∃ slot line sent deadline, c = .slotDeadline slot ∧
        s.mp.slots.get slot = .busy (.writeOf i) line sent deadline ∧ status = .timeout ∧
        sweep = { s.rsw with ahead := aheadAfterEnd e false s.rsw.ahead } ∧
        body = .writeUnconfirmed e.line e.contributors)) →
    ∃ t, exec c s = .next t ∧ t.lat.entries.get i = none ∧
      (∀ q, t.ord.flags.has q = (s.ord.flags.has q || e.contributors.has q)) ∧
      t.ord.rules = s.ord.rules ∧ t.rdp = s.rdp ∧ t.mli = s.mli ∧
      (s.nu.queue.length < 32 → ∃ later, t.nu.queue = s.nu.queue ++ { seq := s.nu.seq, body := body } :: later) ∧
      EndIsTold s t i e true status ∧
      (∀ time r owner line deadline, c = .memoryResponse time r →
        s.mp.slots.get r.slot = .busy owner line true deadline →
        t.mp = { s.mp with slots := s.mp.slots.set r.slot .free, stallMark := false } ∧
        ClaimEndIsFound sweep s.mc.mode line t) ∧
      (∀ slot owner line sent deadline, c = .slotDeadline slot →
        s.mp.slots.get slot = .busy owner line sent deadline →
        t.mp = { s.mp with
          slots := s.mp.slots.set slot (.orphaned (ownerPurpose owner) line sent), stallMark := t.mp.stallMark } ∧
        ((∀ u, s.rsw.engine ≠ .pacing u) → t.rsw = sweep))

/-- R79, R83: the line that memory returns for a read piece is overlaid with the pending bytes as the table stands, the piece
becomes DONE with OK, and the slot becomes FREE. R81, R82, R85: after DATA_FAULT or the slot's deadline the piece is formed
from the pending bytes, with zeros where none covers; one that they cover wholly is OK and brings no notice, any other is
DATA_ERROR or TIMEOUT and posts READ_FAULT. The list `t.rdp.ready` is the model's order list (log entry 6). That
READ_FAULT stands before a MEMORY_STALLED of the same SLOT_DEADLINE, or a SWEEP_DONE that the ended claim brings, is the
model's choice (log entry 13, DESIGN CHOICE, unsafe). -/
def Obligations.ReadReturnIsOverlaid : Prop :=
  (∀ (time : Nat) (r : MemoryResponse) (bytes : Table Byte 64) (c : Fin 16) (n : Nat) (x : Context) (y : ReadPiece)
    (line deadline : Nat) (s : State),
    s.held = false → s.mp.slots.get r.slot = .busy (.readOf c n) line true deadline →
    s.rdp.contexts.get c = some x → x.pieces[n]? = some y → r.data = some bytes →
    (r.status = 0#2 ∨ r.status = 1#2) →
    ∃ t z, exec (.memoryResponse time r) s = .next t ∧ t.rdp.contexts = s.rdp.contexts.set c (some z) ∧
      z.pieces = x.pieces.set n { y with state := .done .ok } ∧ z.worst = x.worst ∧
      z.buffer = writeBuffer x.buffer y.span.pos
        ((spanOffsets y.span).map (fun k => (pendingByte s y.span k).getD (bytes.get k))) ∧
      t.rdp.ready = (if z.pieces.all pieceDone then s.rdp.ready ++ [c] else s.rdp.ready) ∧
      t.mp = { s.mp with slots := s.mp.slots.set r.slot .free, stallMark := false } ∧
      t.lat = s.lat ∧ t.rqp = s.rqp ∧ t.ord = s.ord ∧ t.mli = s.mli ∧ t.out = s.out ∧
      ClaimEndIsFound s.rsw s.mc.mode line t ∧
      (r.status = 1#2 → t.nu.counters.correctedReads = countUp s.nu.counters.correctedReads)) ∧
  ∀ (a : Instr) (status : ReadStatus) (cause : FaultCause) (slot c : Fin 16) (n : Nat) (x : Context) (y : ReadPiece)
    (line deadline : Nat) (sent : Bool) (s : State),
    s.held = false → s.mp.slots.get slot = .busy (.readOf c n) line sent deadline →
    s.rdp.contexts.get c = some x → x.pieces[n]? = some y →
    ((∃ time r, a = .memoryResponse time r ∧ r.slot = slot ∧ sent = true ∧
        (memoryStatusOf r.status = .dataFault ∨ r.data = none) ∧ status = .dataError ∧ cause = .dataFault) ∨
      (a = .slotDeadline slot ∧ status = .timeout ∧ cause = .timeout)) →
    ∃ t z, exec a s = .next t ∧ t.rdp.contexts = s.rdp.contexts.set c (some z) ∧
      z.pieces = x.pieces.set n { y with state := .done (if covered s y.span then .ok else status) } ∧
      z.worst = (if covered s y.span then x.worst else worseRead x.worst status) ∧
      z.buffer = writeBuffer x.buffer y.span.pos
        ((spanOffsets y.span).map (fun k => (pendingByte s y.span k).getD 0#8)) ∧
      t.rdp.ready = (if z.pieces.all pieceDone then s.rdp.ready ++ [c] else s.rdp.ready) ∧
      t.lat = s.lat ∧ t.rqp = s.rqp ∧ t.ord = s.ord ∧ t.mc = s.mc ∧ t.mli = s.mli ∧ t.out = s.out ∧
      (covered s y.span = false → s.nu.queue.length < 32 → ∃ later, t.nu.queue = s.nu.queue ++
        { seq := s.nu.seq, body := .readFault y.span.line x.requester x.tag cause } :: later) ∧
      (covered s y.span = true → (∀ k, s.rsw.engine ≠ .blocked k line) → (∀ u, s.rsw.engine ≠ .pacing u) →
        t.mp.slots.cells.all slotOrphaned = false → t.nu = s.nu) ∧
      (∀ time r, a = .memoryResponse time r →
        t.mp = { s.mp with slots := s.mp.slots.set slot .free, stallMark := false } ∧
        ClaimEndIsFound s.rsw s.mc.mode line t) ∧
      (a = .slotDeadline slot →
        t.mp = { s.mp with
          slots := s.mp.slots.set slot (.orphaned .read line sent), stallMark := t.mp.stallMark } ∧
        ((∀ u, s.rsw.engine ≠ .pacing u) → t.rsw = s.rsw))

/-- R125, R127: a BUSY slot whose deadline passes becomes ORPHANED and keeps its purpose, line and sent mark, and no other slot
and no prepared request changes. MEMORY_STALLED is posted, once, exactly when every slot is then ORPHANED and the stall mark
was clear, between the notices that what the deadline tells brings; a full queue drops it by R160. A slot that is
not BUSY has no deadline. That a SLOT_DEADLINE for such a slot changes nothing is the model's choice
(log entry 3), and that the clock stands at the deadline is log entry 2. -/
def Obligations.DeadlineOrphansTheSlot : Prop :=
  ∀ (n : Fin 16) (s : State), s.held = false →
    (∀ owner line sent deadline, s.mp.slots.get n = .busy owner line sent deadline →
      ∃ t, exec (.slotDeadline n) s = .next t ∧
        t.mp.slots = s.mp.slots.set n (.orphaned (ownerPurpose owner) line sent) ∧
        t.mp.sendOrder = s.mp.sendOrder ∧ t.mp.turn = s.mp.turn ∧ t.now = max s.now deadline ∧
        t.mp.stallMark = (s.mp.stallMark || t.mp.slots.cells.all slotOrphaned) ∧
        ∃ before after, NoticeBody.memoryStalled ∉ before ++ after ∧
          t.nu = postAll (before ++
            (if s.mp.stallMark = false ∧ ∀ i, slotOrphaned (t.mp.slots.get i) = true then [.memoryStalled] else []) ++
            after) s.nu) ∧
    (slotBusy (s.mp.slots.get n) = false → exec (.slotDeadline n) s = .next s)

/-! ## Timers, the Ordering Unit and the sweep -/

/-- R12, R17: an entry whose gather deadline passes while it is GATHERING closes for IDLE; no other entry has such a deadline.
That a GATHER_DEADLINE for such an entry changes nothing is the model's choice (log entry 3), and that the clock stands at the
deadline is log entry 2. -/
def Obligations.GatherDeadlineClosesTheEntry : Prop :=
  ∀ (i : Fin 32) (s : State), s.held = false →
    (∀ e deadline, s.lat.entries.get i = some e → e.state = .gathering → e.deadline = some deadline →
      ∃ t n, exec (.gatherDeadline i) s = .next t ∧
        t = { s with
          lat := { s.lat with
            entries := s.lat.entries.set i
              (some { e with state := .closed, closeNumber := some n, deadline := none }),
            issueQueue := s.lat.issueQueue ++ [i] },
          starvation := t.starvation, now := max s.now deadline } ∧
        ∀ j x m, s.lat.entries.get j = some x → x.closeNumber = some m → m < n) ∧
    ((∀ e deadline, s.lat.entries.get i = some e → e.state = .gathering → e.deadline = some deadline → False) →
      exec (.gatherDeadline i) s = .next s)

/-- R102, R103, R104, R108, R110: at the end of its pacing the engine evaluates: outside ONLINE or with no SWEEPING region it
is IDLE, at a claimed watermark line BLOCKED, at an unclaimed one without a WRITTEN record READY; at a WRITTEN record it
passes the line, removes the record and evaluates again. That a PACING_END without a pacing changes nothing is the model's
choice (log entry 3). R97, R107, R108, R110, R125: a pacing begins at the end of a sweep write. There the watermark advances
by one line; at the end of the region the region becomes READY and SWEEP_DONE is posted. DATA_FAULT or a deadline counts one
sweep fault, saturating at 65535, and posts SWEEP_FAULT; that it stands before SWEEP_DONE, and both before a MEMORY_STALLED of
the same SLOT_DEADLINE, is the model's choice (log entry 13, DESIGN CHOICE, unsafe). In ONLINE the engine then paces, or
evaluates at once when SWEEP_INTERVAL is 0 or the sweep is urgent; outside ONLINE it is IDLE. A response frees the slot, and a
deadline orphans it. -/
def Obligations.PacingEndBringsAnEvaluation : Prop :=
  (∀ s : State, s.held = false →
    ((∀ until_, s.rsw.engine ≠ .pacing until_) → exec .pacingEnd s = .next s) ∧
    (∀ until_, s.rsw.engine = .pacing until_ →
      ∃ t, exec .pacingEnd s = .next t ∧ t.now = max s.now until_ ∧
        (s.mc.mode ≠ .online ∨ sweepTarget s = none → t.rsw = { s.rsw with engine := .idle }) ∧
        (∀ k line, s.mc.mode = .online → sweepTarget s = some (k, line) → writtenAhead s.rsw line = false →
          t.rsw = { s.rsw with
            engine := if claimed s.mp line then .blocked k line else .ready k line }) ∧
        (∃ v, Evaluates { s with now := t.now } v ∧ t = { v with starvation := t.starvation }) ∧
        t = { s with rsw := t.rsw, nu := t.nu, starvation := t.starvation, now := t.now })) ∧
  ∀ (c : Instr) (fault : Option FaultCause) (slot : Fin 16) (sent : Bool) (k : Fin 8) (line deadline moment : Nat)
    (info info' : RegionInfo) (nu₁ nu₂ : Nu) (sweep : Rsw) (s : State),
    s.held = false → s.mp.slots.get slot = .busy .sweepEngine line sent deadline →
    s.rsw.engine = .writing k line → s.rsw.regions.get k = .sweeping info line →
    ((∃ time r, c = .memoryResponse time r ∧ r.slot = slot ∧ sent = true ∧ moment = max s.now time ∧
        fault = if r.status = 0#2 ∨ r.status = 1#2 then none else some .dataFault) ∨
      (c = .slotDeadline slot ∧ moment = max s.now deadline ∧ fault = some .timeout)) →
    info' = (if fault.isSome ∧ info.faults ≠ 0xFFFF#16 then { info with faults := info.faults + 1#16 } else info) →
    nu₁ = (match fault with
      | some cause => postToNu (.sweepFault k line cause) s.nu
      | none => s.nu) →
    nu₂ = (if line + 64 = info.base + info.size then postToNu (.sweepDone k info'.faults) nu₁ else nu₁) →
    sweep = { s.rsw with
      regions := s.rsw.regions.set k
        (if line + 64 = info.base + info.size then .ready info' else .sweeping info' (line + 64)) } →
    ∃ t later, exec c s = .next t ∧ t.now = moment ∧ t.nu.queue = nu₂.queue ++ later ∧
      (s.mc.mode ≠ .online → t.rsw = { sweep with engine := .idle }) ∧
      (s.mc.mode = .online → s.mli.items.sweepInterval ≠ 0#32 →
        s.rsw.ahead.length < s.mli.items.sweepUrgentLevel.toNat → s.rsw.ahead.length < 48 →
        t.rsw = { sweep with engine := .pacing (moment + s.mli.items.sweepInterval.toNat) }) ∧
      (s.mc.mode = .online →
        s.mli.items.sweepInterval = 0#32 ∨ s.mli.items.sweepUrgentLevel.toNat ≤ s.rsw.ahead.length →
        SweepEvaluated sweep .online t) ∧
      (∀ time r, c = .memoryResponse time r →
        t.mp = { s.mp with slots := s.mp.slots.set slot .free, stallMark := false }) ∧
      (c = .slotDeadline slot → t.mp = { s.mp with
        slots := s.mp.slots.set slot (.orphaned .sweep line sent), stallMark := t.mp.stallMark }) ∧
      t.rqp = s.rqp ∧ t.lat = s.lat ∧ t.rdp = s.rdp ∧ t.ord = s.ord ∧ t.mli = s.mli ∧ t.out = s.out ∧
      (s.mc.mode ≠ .draining → t.mc = s.mc)

/-- R60, R42 to R45, R144: a barrier entry with an empty predecessor set, the predecessor-failed mark and suppress is
discarded without a slot: it leaves the Issue Queue and the table, its contributors' flags are set, its held acknowledgements
count down with WRITE_FAILED, the barriers and the FLUSH that waited for it are marked, WRITE_LOST names its rule, and the
head is then judged (R136). The list of entries that await their discard is the model's (log entry 6), and that the event
changes nothing when the list is empty is log entry 3. -/
def Obligations.SuppressedEntryIsDiscarded : Prop :=
  ∀ s : State, s.held = false →
    (s.ord.discards = [] → exec .suppressionDiscard s = .next s) ∧
    (∀ i rest e b, s.ord.discards = i :: rest → s.lat.entries.get i = some e → e.state = .closed →
      e.barrier = some b → b.predecessors.isEmpty = true → b.failed = true → b.suppress = true →
      ∃ t, exec .suppressionDiscard s = .next t ∧ t.lat.entries.get i = none ∧
        (i ∉ t.lat.issueQueue) ∧ t.mp = s.mp ∧ t.rdp = s.rdp ∧ t.rsw = s.rsw ∧ t.mli = s.mli ∧
        (∀ q, t.ord.flags.has q = (s.ord.flags.has q || e.contributors.has q)) ∧
        (∀ q, t.ord.sync.get q =
          (s.ord.sync.get q).map (fun x => { x with waitSet := x.waitSet.erase i })) ∧
        (s.nu.queue.length < 32 → ∃ later, t.nu.queue = s.nu.queue ++
          { seq := s.nu.seq, body := .writeLost e.line e.contributors (.suppressed b.rule) } :: later) ∧
        EndIsTold { s with
          ord := { s.ord with discards := rest },
          lat := { s.lat with issueQueue := s.lat.issueQueue.filter (fun j => j != i) } } t i e true .writeFailed)

/-- R68, R151: a FLUSH whose wait set is empty ends with CLEAN or LOSSES, records it and posts COMMAND_DONE; in any other
state there is no FLUSH to complete, and that FLUSH_COMPLETE then changes nothing is the model's choice (log entry 3). What a
management frame's act finds is the state after this completion (R67, R174, log entry 28). -/
def Obligations.FlushCompletesWithItsOutcome : Prop :=
  ∀ s : State, s.held = false →
    (∀ waitSet losses, s.mc.running = .flush waitSet losses → waitSet.isEmpty = true →
      exec .flushComplete s = .next { s with
        mc := { s.mc with
          running := .none, last := some (.flush, if losses then .losses else .clean) },
        nu := postToNu (.commandDone .flush (if losses then .losses else .clean)) s.nu }) ∧
    ((∀ waitSet losses, s.mc.running = .flush waitSet losses → waitSet.isEmpty = false) →
      exec .flushComplete s = .next s) ∧
    exec .flushComplete s = .next (frameStart s)

/-! ## The management link: reports and items -/

/-- R170: GET_ITEM answers the six items with their values and every other name with REFUSED_ARGUMENT, and changes nothing; a
power-on reset sets the defaults and a warm reset keeps the items. -/
def Obligations.GetItemAnswersTheItem : Prop :=
  (∀ (code : Byte) (s₀ s : State), FrameFinds s₀ s →
    exec (.getItem code) s₀ = .next (answerFrame
      (if code = 1#8 then { status := .done, fields := .item (s.mli.items.gatherTimeout.setWidth 40) }
       else if code = 2#8 then { status := .done, fields := .item (s.mli.items.memoryTimeout.setWidth 40) }
       else if code = 3#8 then { status := .done, fields := .item (s.mli.items.sweepInterval.setWidth 40) }
       else if code = 4#8 then { status := .done, fields := .item (s.mli.items.sweepUrgentLevel.setWidth 40) }
       else if code = 5#8 then { status := .done, fields := .item (s.nu.enables.setWidth 40) }
       else if code = 6#8 then { status := .done, fields := .item 0x03A7041602#40 }
       else { status := .refusedArgument, fields := .nothing }) false s)) ∧
  (∀ s : State, ∃ t, exec .powerOnReset s = .next t ∧ t.nu.enables = 0x7FF#11 ∧
    t.mli.items =
      { gatherTimeout := 16#32, memoryTimeout := 2000#32, sweepInterval := 4#32, sweepUrgentLevel := 40#32 }) ∧
  ∀ s₀ s : State, FrameFinds s₀ s → ∃ t, exec .resetBridge s₀ = .next t ∧ t.mli.items = s.mli.items ∧
    t.nu.enables = s.nu.enables

/-- R171 with Table 10-3: a value within an item's range is taken and answered DONE, any other name or value is refused; the
new level ends a pacing of a sweep that is urgent under it, with a fresh evaluation (R108, R109), and the new enables judge
the notice line. -/
def Obligations.SetItemTakesValuesInRange : Prop :=
  ∀ (code : Byte) (value : BitVec 32) (s₀ s : State), FrameFinds s₀ s →
    ((code = 1#8 ∧ 1023 < value.toNat) ∨ (code = 2#8 ∧ (value.toNat = 0 ∨ 65535 < value.toNat)) ∨
      (code = 3#8 ∧ 255 < value.toNat) ∨ (code = 4#8 ∧ (value.toNat = 0 ∨ 48 < value.toNat)) ∨
      (code = 5#8 ∧ 2 ^ 11 ≤ value.toNat) ∨ code = 0#8 ∨ 6#8 ≤ code →
      exec (.setItem code value) s₀ =
        .next (answerFrame { status := .refusedArgument, fields := .nothing } false s)) ∧
    (code = 1#8 → value.toNat ≤ 1023 → exec (.setItem code value) s₀ =
      .next (answerFrame { status := .done, fields := .nothing } false
        { s with mli := { s.mli with items := { s.mli.items with gatherTimeout := value } } })) ∧
    (code = 2#8 → 1 ≤ value.toNat → value.toNat ≤ 65535 → exec (.setItem code value) s₀ =
      .next (answerFrame { status := .done, fields := .nothing } false
        { s with mli := { s.mli with items := { s.mli.items with memoryTimeout := value } } })) ∧
    (code = 3#8 → value.toNat ≤ 255 → exec (.setItem code value) s₀ =
      .next (answerFrame { status := .done, fields := .nothing } false
        { s with mli := { s.mli with items := { s.mli.items with sweepInterval := value } } })) ∧
    (code = 4#8 → 1 ≤ value.toNat → value.toNat ≤ 48 → ∃ t, exec (.setItem code value) s₀ = .next t ∧
      t.mli.items = { s.mli.items with sweepUrgentLevel := value } ∧
      t.out = { s.out with answers := s.out.answers ++ [{ status := .done, fields := .nothing }] } ∧
      ((∀ u, s.rsw.engine ≠ .pacing u) → t.rsw = s.rsw ∧ t.nu = s.nu) ∧
      (value.toNat ≤ s.rsw.ahead.length → ∀ u, t.rsw.engine ≠ .pacing u) ∧
      (∀ u, s.rsw.engine = .pacing u → value.toNat ≤ s.rsw.ahead.length ∨ starving s = true →
        SweepEvaluated s.rsw s.mc.mode t) ∧
      (s.rsw.ahead.length < value.toNat → starving s = false → t.rsw = s.rsw ∧ t.nu = s.nu) ∧
      t.mli.brokenFrame = s.mli.brokenFrame ∧
      t = { s with rsw := t.rsw, nu := t.nu, starvation := t.starvation, mli := t.mli, out := t.out }) ∧
    (code = 5#8 → value.toNat < 2 ^ 11 → exec (.setItem code value) s₀ =
      .next (answerFrame { status := .done, fields := .nothing } false
        { s with nu := { s.nu with
            enables := value.setWidth 11,
            line := s.nu.queue.any (fun n => (value.setWidth 11).getLsbD (noticeKind n.body)) } }))

/-- R172, R129: READ_STATUS answers with the status record of its act, clears the broken-frame mark and changes nothing else;
READ_SLOTS answers with the state of each slot, with the purpose and line of a BUSY or ORPHANED one, and changes nothing. -/
def Obligations.StatusAndSlotsAreReported : Prop :=
  ∀ s₀ s : State, FrameFinds s₀ s →
    (∃ views, exec .readSlots s₀ = .next (answerFrame { status := .done, fields := .slots views } false s) ∧
      ∀ i, views.get i = match s.mp.slots.get i with
        | .free => .free
        | .busy owner line _ _ => .busy (ownerPurpose owner) line
        | .orphaned purpose line _ => .orphaned purpose line) ∧
    ∃ r, exec .readStatus s₀ = .next (answerFrame { status := .done, fields := .status r } false
        { s with mli := { s.mli with brokenFrame := false } }) ∧
      r.mode = s.mc.mode ∧
      r.running = (match s.mc.running with
        | .none => none
        | .quiesce => some .quiesce
        | .flush _ _ => some .flush) ∧
      r.last = s.mc.last ∧ r.noticesHeld = s.nu.queue.length ∧
      r.entriesInUse = (Finset.univ.filter (fun i : Fin 32 => (s.lat.entries.get i).isSome = true)).card ∧
      r.slotsBusy = (Finset.univ.filter (fun i : Fin 16 => slotBusy (s.mp.slots.get i) = true)).card ∧
      r.slotsOrphaned = (Finset.univ.filter (fun i : Fin 16 => slotOrphaned (s.mp.slots.get i) = true)).card ∧
      r.aheadCount = s.rsw.ahead.length ∧ r.brokenFrame = s.mli.brokenFrame ∧ r.partIdent = 0x03A7041602#40

/-- R173: READ_FLAGS and READ_COUNTERS answer with what stands and change nothing; CLEAR_COUNTERS zeroes the nine counters and
nothing else. -/
def Obligations.FlagsAndCountersAreReported : Prop :=
  ∀ s₀ s : State, FrameFinds s₀ s →
    exec .readFlags s₀ = .next (answerFrame { status := .done, fields := .flags s.ord.flags } false s) ∧
    exec .readCounters s₀ = .next (answerFrame { status := .done, fields := .counters s.nu.counters } false s) ∧
    exec .clearCounters s₀ = .next (answerFrame { status := .done, fields := .nothing } false
      { s with nu := { s.nu with counters :=
          { merges := 0#32, wholeWrites := 0#32, fetchWrites := 0#32, patternWrites := 0#32, forwardedReads := 0#32,
            patternReads := 0#32, correctedReads := 0#32, lateResponses := 0#32, noticesLost := 0#32 } } })

/-- R161: TAKE_NOTICE answers EMPTY, or DONE with the oldest record, which leaves the queue at the end of the whole frame; the
notice line is judged again (R162). -/
def Obligations.TakeNoticeRemovesAtTheFrameEnd : Prop :=
  (∀ s₀ s : State, FrameFinds s₀ s →
    (s.nu.queue = [] →
      exec .takeNotice s₀ = .next (answerFrame { status := .empty, fields := .nothing } false s)) ∧
    ∀ n rest, s.nu.queue = n :: rest →
      exec .takeNotice s₀ = .next (answerFrame { status := .done, fields := .notice n } true s)) ∧
  ∀ (s : State) (n : Notice) (rest : List Notice) (bytes : List Byte), s.held = false →
    s.nu.queue = n :: rest → s.mli.frame = .answering bytes true →
    exec .noticeRemoved s = .next { s with
      nu := { s.nu with queue := rest, line := rest.any (noticeEnabled s.nu.enables) },
      mli := { s.mli with frame := .waiting } }

/-- R166, R167: an unknown code is answered UNKNOWN_COMMAND and changes nothing; a cut frame sets the broken-frame mark and no
more, so that a TAKE_NOTICE cut before its answer is whole leaves its record. R175: a frame that overlaps the power-on reset
is ignored: it has no effect and sets no mark, and the receiver then waits for a fresh one. While the reset is held, and
wherever no answer is under way, data out carries the filler (R166, R178). That the reset's cut is an event of its own, and
what each cut needs, is log entries 3, 10 and 27. -/
def Obligations.UnknownAndBrokenFrames : Prop :=
  (∀ (code : Byte) (s₀ s : State), FrameFinds s₀ s →
    exec (.unknownCommand code) s₀ =
      .next (answerFrame { status := .unknownCommand, fields := .nothing } false s)) ∧
  (∀ (cut : FrameCut) (s : State), ignoresFrame s = false → cut.wellFormed = true → cut ≠ .byReset →
    (∀ n, cut = .inAnswer n → ∃ bytes removes, s.mli.frame = .answering bytes removes ∧ n < bytes.length) →
    exec (.brokenFrame cut) s = .next { s with mli := { s.mli with brokenFrame := true, frame := .waiting } }) ∧
  (∀ (c : Instr) (s : State), s.held = false → s.mli.frame = .ignoring →
    ((encodeFrame c).isSome = true ∨ ∃ bytes, c = .brokenFrame (.inRequest bytes)) →
    exec c s = .next { s with mli := { s.mli with frame := .waiting } }) ∧
  (∀ s : State, s.held = true →
    exec (.brokenFrame .byReset) s = .next { s with mli := { s.mli with frame := .ignoring } }) ∧
  ∀ (requestBytes k : Nat) (s : State),
    s.held = true ∨ k < requestBytes ∨ s.mli.frame = .waiting ∨ s.mli.frame = .ignoring →
    dataOut requestBytes k s = 0xFF#8

/-! ## The management link: regions and rules -/

/-- R93, R103, R111: DEFINE_REGION refuses each case of its list and else makes the record present: READY, or SWEEPING with its
watermark at base, in every mode and beside any engine state, while the Ahead List holds no record for the new range (R99). In
ONLINE an engine that is IDLE, READY or BLOCKED evaluates afresh; a WRITING or pacing one, and any engine outside ONLINE, is
left to its work. -/
def Obligations.DefineRegionMakesTheRecordPresent : Prop :=
  ∀ (index : Byte) (base : BitVec 40) (size : BitVec 32) (mode : Byte) (pattern : Table Byte 8) (s₀ s : State),
    FrameFinds s₀ s →
    (8 ≤ index.toNat ∨ (∃ k : Fin 8, k.val = index.toNat ∧ s.rsw.regions.get k ≠ .absent) ∨
      base.toNat % 65536 ≠ 0 ∨ size = 0#32 ∨ 2 ^ 40 < base.toNat + size.toNat * 65536 ∨ (mode ≠ 0#8 ∧ mode ≠ 1#8) ∨
      (∃ k i, (s.rsw.regions.get k).info = some i ∧ base.toNat < i.base + i.size ∧
        i.base < base.toNat + size.toNat * 65536) →
      exec (.defineRegion index base size mode pattern) s₀ =
        .next (answerFrame { status := .refusedArgument, fields := .nothing } false s)) ∧
    (∀ k : Fin 8, k.val = index.toNat → s.rsw.regions.get k = .absent → base.toNat % 65536 = 0 → size ≠ 0#32 →
      base.toNat + size.toNat * 65536 ≤ 2 ^ 40 →
      (∀ j i, (s.rsw.regions.get j).info = some i →
        i.base + i.size ≤ base.toNat ∨ base.toNat + size.toNat * 65536 ≤ i.base) →
      (mode = 0#8 → exec (.defineRegion index base size mode pattern) s₀ =
        .next (answerFrame { status := .done, fields := .nothing } false
          { s with rsw := { s.rsw with
              regions := s.rsw.regions.set k
                (.ready { base := base.toNat, size := size.toNat * 65536, pattern := pattern, faults := 0#16 }) } })) ∧
      (mode = 1#8 → ∃ t, exec (.defineRegion index base size mode pattern) s₀ = .next t ∧
        t.out = { s.out with answers := s.out.answers ++ [{ status := .done, fields := .nothing }] } ∧
        t.mli.items = s.mli.items ∧ t.mli.brokenFrame = s.mli.brokenFrame ∧
        t = { s with rsw := t.rsw, nu := t.nu, starvation := t.starvation, mli := t.mli, out := t.out } ∧
        ((∀ r ∈ s.rsw.ahead, r.line < base.toNat ∨ base.toNat + size.toNat * 65536 ≤ r.line) →
          t.rsw.regions.get k = .sweeping
            { base := base.toNat, size := size.toNat * 65536, pattern := pattern, faults := 0#16 } base.toNat) ∧
        (∀ sweep, sweep = { s.rsw with regions := s.rsw.regions.set k (.sweeping
            { base := base.toNat, size := size.toNat * 65536, pattern := pattern, faults := 0#16 } base.toNat) } →
          (s.mc.mode = .online →
            s.rsw.engine = .idle ∨ (∃ j l, s.rsw.engine = .ready j l) ∨ (∃ j l, s.rsw.engine = .blocked j l) →
            SweepEvaluated sweep .online t) ∧
          ((∃ j l, s.rsw.engine = .writing j l) ∨ (s.mc.mode ≠ .online ∧ ∀ u, s.rsw.engine ≠ .pacing u) ∨
              ((∃ u, s.rsw.engine = .pacing u) ∧ s.rsw.ahead.length < s.mli.items.sweepUrgentLevel.toNat ∧
                s.rsw.ahead.length < 48) →
            t.rsw = sweep ∧ t.nu = s.nu)) ∧
        (s.rsw.engine = .idle → s.mc.mode ≠ .online ∨
            ((∀ j, isSweeping (s.rsw.regions.get j) = false) ∧ s.rsw.ahead = [] ∧ claimed s.mp base.toNat = false) →
          t.rsw = { s.rsw with
            regions := s.rsw.regions.set k (.sweeping
              { base := base.toNat, size := size.toNat * 65536, pattern := pattern, faults := 0#16 } base.toNat),
            engine := if s.mc.mode = .online then .ready k base.toNat else .idle } ∧ t.nu = s.nu)))

/-- R94: RETIRE_REGION judges the mode first and the index next; it removes the record and every Ahead List record that names
the region, and a retire of an ABSENT record changes nothing. -/
def Obligations.RetireRegionRemovesTheRecord : Prop :=
  ∀ (index : Byte) (s₀ s : State), FrameFinds s₀ s →
    (s.mc.mode = .online ∨ s.mc.mode = .draining →
      exec (.retireRegion index) s₀ =
        .next (answerFrame { status := .refusedMode, fields := .nothing } false s)) ∧
    (s.mc.mode = .offline ∨ s.mc.mode = .quiesced →
      (8 ≤ index.toNat → exec (.retireRegion index) s₀ =
        .next (answerFrame { status := .refusedArgument, fields := .nothing } false s)) ∧
      (∀ k : Fin 8, k.val = index.toNat →
        (s.rsw.regions.get k = .absent → exec (.retireRegion index) s₀ =
          .next (answerFrame { status := .done, fields := .nothing } false s)) ∧
        (s.rsw.regions.get k ≠ .absent → ∃ t, exec (.retireRegion index) s₀ = .next t ∧
          t = answerFrame { status := .done, fields := .nothing } false
            { s with
              rsw := { s.rsw with
                regions := s.rsw.regions.set k .absent, ahead := s.rsw.ahead.filter (fun r => r.region != k) },
              starvation := t.starvation } ∧
          (s.rsw.ahead.length ≤ 48 → (∃ r ∈ s.rsw.ahead, r.region = k) → t.starvation = false))))

/-- R95: READ_REGION answers with the record and its Ahead List count, or REFUSED_ARGUMENT, in every mode, and changes
nothing. -/
def Obligations.ReadRegionShowsTheRecord : Prop :=
  ∀ (index : Byte) (s₀ s : State), FrameFinds s₀ s →
    (8 ≤ index.toNat → exec (.readRegion index) s₀ =
      .next (answerFrame { status := .refusedArgument, fields := .nothing } false s)) ∧
    ∀ k : Fin 8, k.val = index.toNat → exec (.readRegion index) s₀ =
      .next (answerFrame
        { status := .done,
          fields := .region (s.rsw.regions.get k) (s.rsw.ahead.countP (fun r => r.region == k)) } false s)

/-- R50, for the suppress and note codes 0 and 1: SET_RULE judges the mode first, refuses each case of its list, and else
replaces the rule at the index. -/
def Obligations.SetRuleReplacesTheRule : Prop :=
  ∀ (index : Byte) (base limit : BitVec 40) (requester scope suppress note : Byte) (s₀ s : State),
    FrameFinds s₀ s →
    (s.mc.mode = .online ∨ s.mc.mode = .draining →
      exec (.setRule index base limit requester scope suppress note) s₀ =
        .next (answerFrame { status := .refusedMode, fields := .nothing } false s)) ∧
    (s.mc.mode = .offline ∨ s.mc.mode = .quiesced →
      (8 ≤ index.toNat ∨ limit.toNat ≤ base.toNat ∨ 2 ^ 40 < limit.toNat * 64 ∨
        (requester ≠ 0xFF#8 ∧ 16 ≤ requester.toNat) ∨ (scope ≠ 0#8 ∧ scope ≠ 1#8) →
        exec (.setRule index base limit requester scope suppress note) s₀ =
          .next (answerFrame { status := .refusedArgument, fields := .nothing } false s)) ∧
      (∀ (k : Fin 8) (who : Option Requester), k.val = index.toNat → base.toNat < limit.toNat →
        limit.toNat * 64 ≤ 2 ^ 40 →
        (who = none ∧ requester = 0xFF#8 ∨ ∃ r, who = some r ∧ r.val = requester.toNat) →
        (scope = 0#8 ∨ scope = 1#8) → (suppress = 0#8 ∨ suppress = 1#8) → (note = 0#8 ∨ note = 1#8) →
        exec (.setRule index base limit requester scope suppress note) s₀ =
          .next (answerFrame { status := .done, fields := .nothing } false
            { s with ord := { s.ord with rules := s.ord.rules.set k (some
                { base := base.toNat * 64, limit := limit.toNat * 64, requester := who,
                  scope := if scope = 1#8 then .all else .own, suppress := decide (suppress = 1#8),
                  note := decide (note = 1#8) }) } })))

/-- R51: CLEAR_RULE judges the mode and then the index and makes the rule absent; READ_RULE answers in every mode and changes
nothing. -/
def Obligations.ClearAndReadRule : Prop :=
  ∀ (index : Byte) (s₀ s : State), FrameFinds s₀ s →
    (s.mc.mode = .online ∨ s.mc.mode = .draining →
      exec (.clearRule index) s₀ =
        .next (answerFrame { status := .refusedMode, fields := .nothing } false s)) ∧
    (8 ≤ index.toNat →
      (s.mc.mode = .offline ∨ s.mc.mode = .quiesced → exec (.clearRule index) s₀ =
        .next (answerFrame { status := .refusedArgument, fields := .nothing } false s)) ∧
      exec (.readRule index) s₀ =
        .next (answerFrame { status := .refusedArgument, fields := .nothing } false s)) ∧
    ∀ k : Fin 8, k.val = index.toNat →
      (s.mc.mode = .offline ∨ s.mc.mode = .quiesced → exec (.clearRule index) s₀ =
        .next (answerFrame { status := .done, fields := .nothing } false
          { s with ord := { s.ord with rules := s.ord.rules.set k none } })) ∧
      exec (.readRule index) s₀ =
        .next (answerFrame { status := .done, fields := .rule (s.ord.rules.get k) } false s)

/-! ## The management link: modes, slots, the warm reset -/

/-- R150, R156, R103, R104: GO_ONLINE is accepted in OFFLINE alone, RESUME in QUIESCED and DRAINING, where a running drain
ends ABANDONED with COMMAND_DONE. Both bring the mode ONLINE, a judgement of the head (R136, R141) and a fresh evaluation of
an engine that is not WRITING, which passes WRITTEN records and is IDLE without a SWEEPING region; elsewhere they are refused.
That COMMAND_DONE stands before the notices that the new mode brings is the model's choice (log entry 13, DESIGN CHOICE,
unsafe). -/
def Obligations.GoOnlineAndResumeStartTheBridge : Prop :=
  ∀ (c : Instr) (s₀ s : State), FrameFinds s₀ s → (c = .goOnline ∨ c = .resume) →
    ((c = .goOnline ∧ s.mc.mode ≠ .offline) ∨ (c = .resume ∧ (s.mc.mode = .online ∨ s.mc.mode = .offline)) →
      exec c s₀ = .next (answerFrame { status := .refusedMode, fields := .nothing } false s)) ∧
    ((c = .goOnline ∧ s.mc.mode = .offline) ∨ (c = .resume ∧ (s.mc.mode = .quiesced ∨ s.mc.mode = .draining)) →
      ∃ t, exec c s₀ = .next t ∧ t.mc.mode = .online ∧
        t.out = { s.out with answers := s.out.answers ++ [{ status := .done, fields := .nothing }] } ∧
        t.rqp = s.rqp ∧ t.rdp = s.rdp ∧ t.ord = s.ord ∧ t.mp = s.mp ∧ t.mli.items = s.mli.items ∧
        t.lat = judgedLat s.rqp.intake.head? { s with mc := { s.mc with mode := .online } } ∧
        (s.mc.mode ≠ .draining → t.mc = { s.mc with mode := .online }) ∧
        (s.mc.mode = .draining →
          t.mc = { mode := .online, running := .none, last := some (.quiesce, .abandoned) } ∧
          (s.nu.queue.length < 32 → ∃ later, t.nu.queue =
            s.nu.queue ++ { seq := s.nu.seq, body := .commandDone .quiesce .abandoned } :: later)) ∧
        (∀ r l, s.rsw.engine = .writing r l → t.rsw = s.rsw) ∧
        ((∀ r l, s.rsw.engine ≠ .writing r l) → SweepEvaluated s.rsw .online t) ∧
        (∀ k line, (∀ r l, s.rsw.engine ≠ .writing r l) → sweepTarget s = some (k, line) →
          writtenAhead s.rsw line = false →
          t.rsw = { s.rsw with engine := if claimed s.mp line then .blocked k line else .ready k line }))

/-- R17, R111, R152, R151, R153, R174: QUIESCE in ONLINE with no long command running closes every GATHERING entry in
ascending index, which stay with their bytes and join the Issue Queue, leaves a WRITING engine its write, makes any other
IDLE, and starts the drain, which completes in the same act when nothing is pending; else it is answered BUSY or REFUSED_MODE.
-/
def Obligations.QuiesceStartsTheDrain : Prop :=
  ∀ s₀ s : State, FrameFinds s₀ s →
    (s.mc.mode ≠ .online →
      exec .quiesce s₀ = .next (answerFrame { status := .refusedMode, fields := .nothing } false s)) ∧
    (s.mc.mode = .online → s.mc.running ≠ .none →
      exec .quiesce s₀ = .next (answerFrame { status := .busy, fields := .nothing } false s)) ∧
    (s.mc.mode = .online → s.mc.running = .none → ∃ t, exec .quiesce s₀ = .next t ∧
      t.out = { s.out with answers := s.out.answers ++ [{ status := .started, fields := .nothing }] } ∧
      (∀ i, entryIs isGathering (t.lat.entries.get i) = false) ∧
      (∀ i, (t.lat.entries.get i).isSome = (s.lat.entries.get i).isSome) ∧
      ClosedInOrder (fun _ => true) s.lat t.lat ∧
      (∀ k line, s.rsw.engine = .writing k line → t.rsw = s.rsw) ∧
      ((∀ k line, s.rsw.engine ≠ .writing k line) → t.rsw = { s.rsw with engine := .idle }) ∧
      t.mli.items = s.mli.items ∧ t.mli.brokenFrame = s.mli.brokenFrame ∧
      t = { s with
        lat := t.lat, starvation := t.starvation, rsw := t.rsw, mc := t.mc, nu := t.nu, mli := t.mli, out := t.out } ∧
      engineDrains t.rsw.engine = true ∧ t.rqp = s.rqp ∧ t.rdp = s.rdp ∧ t.ord = s.ord ∧ t.mp = s.mp ∧
      t.rsw.regions = s.rsw.regions ∧ t.rsw.ahead = s.rsw.ahead ∧
      (drained s = false → t.mc = { s.mc with mode := .draining, running := .quiesce } ∧ t.nu = s.nu) ∧
      (drained s = true →
        t.mc = { mode := .quiesced, running := .none, last := some (.quiesce, .done) } ∧
        t.nu = postToNu (.commandDone .quiesce .done) s.nu))

/-- R17, R67: FLUSH in ONLINE with no long command running closes every GATHERING entry in ascending index, which stay with
their bytes and join the Issue Queue, and waits for every entry not FREE, with the outcome CLEAN so far; else it is answered
BUSY or REFUSED_MODE. R174: a FLUSH with nothing to wait for has ended before the next frame: a READ_STATUS sent next shows no
running command and the outcome CLEAN, and COMMAND_DONE is posted. That the completion is made by FLUSH_COMPLETE or at latest
with the next frame is log entry 28. -/
def Obligations.FlushWaitsForEveryEntry : Prop :=
  ∀ s₀ s : State, FrameFinds s₀ s →
    (s.mc.mode ≠ .online →
      exec .flush s₀ = .next (answerFrame { status := .refusedMode, fields := .nothing } false s)) ∧
    (s.mc.mode = .online → s.mc.running ≠ .none →
      exec .flush s₀ = .next (answerFrame { status := .busy, fields := .nothing } false s)) ∧
    (s.mc.mode = .online → s.mc.running = .none → ∃ t waitSet, exec .flush s₀ = .next t ∧
      t.mc = { s.mc with running := .flush waitSet false } ∧
      (∀ i, waitSet.has i = (s.lat.entries.get i).isSome) ∧
      (∀ i, entryIs isGathering (t.lat.entries.get i) = false) ∧
      ClosedInOrder (fun _ => true) s.lat t.lat ∧
      t.out = { s.out with answers := s.out.answers ++ [{ status := .started, fields := .nothing }] } ∧
      t = { s with
        lat := t.lat, starvation := t.starvation, mc := t.mc, mli := t.mli, out := t.out } ∧
      ((∀ i, s.lat.entries.get i = none) → ∃ u record, exec .readStatus t = .next u ∧
        u.out.answers = t.out.answers ++ [{ status := .done, fields := .status record }] ∧
        u.mc = { s.mc with running := .none, last := some (.flush, .clean) } ∧
        u.nu = postToNu (.commandDone .flush .clean) s.nu ∧
        record.running = none ∧ record.last = some (.flush, .clean)))

/-- R157, R146, R130, R127, R163, R165, R22, R99: the warm reset answers every waiting request ABORTED in order, clears the
traffic, orphans the BUSY slots, and keeps regions, rules, items and WRITTEN records. It keeps the Notice Queue, the sequence
counter, the counters and the stall mark, and posts COMMAND_DONE for an aborted long command and then MEMORY_STALLED when it
leaves every slot ORPHANED while the stall mark is clear. The two stand in R157's order. -/
def Obligations.WarmResetClearsTheTraffic : Prop :=
  ∀ s₀ s : State, FrameFinds s₀ s →
    ∃ t nu, exec .resetBridge s₀ = .next t ∧
      t.mc.mode = .offline ∧ t.mc.running = .none ∧
      t.out.responses = s.out.responses ++
        (s.rdp.contexts.cells.filterMap (fun c => c.map (fun x => (x.requester, x.tag))) ++
         s.rqp.wrt.cells.filterMap (fun w => w.map (fun x => (x.requester, x.tag))) ++
         (List.finRange 16).filterMap (fun r => (s.ord.sync.get r).map (fun x => (r, x.tag))) ++
         s.rqp.intake.map (fun q => (q.requester, q.tag))).map
        (fun p => { requester := p.1, tag := p.2, status := .aborted, data := [] }) ∧
      t.out.answers = s.out.answers ++ [{ status := .done, fields := .nothing }] ∧ t.out.memory = s.out.memory ∧
      t.rqp.intake = [] ∧ t.rqp.tags = [] ∧ (∀ w, t.rqp.wrt.get w = none) ∧
      (∀ i, t.lat.entries.get i = none) ∧ t.lat.issueQueue = [] ∧ t.lat.evictMark = none ∧ t.starvation = false ∧
      (∀ c, t.rdp.contexts.get c = none) ∧ (∀ r, t.ord.sync.get r = none) ∧ (∀ r, t.ord.flags.has r = false) ∧
      t.ord.rules = s.ord.rules ∧ t.rsw.regions = s.rsw.regions ∧ t.rsw.engine = .idle ∧
      t.rsw.ahead = s.rsw.ahead.filter (fun r => r.state == .written) ∧
      (∀ i, t.mp.slots.get i = match s.mp.slots.get i with
        | .free => .free
        | .busy owner line sent _ => .orphaned (ownerPurpose owner) line sent
        | .orphaned purpose line sent => .orphaned purpose line sent) ∧
      t.mp.sendOrder = s.mp.sendOrder ∧ t.mp.turn = .write ∧ t.mli.items = s.mli.items ∧
      t.mli.brokenFrame = s.mli.brokenFrame ∧ t.nu.enables = s.nu.enables ∧
      (s.mc.running = .none → t.mc.last = s.mc.last ∧ nu = s.nu) ∧
      (s.mc.running = .quiesce →
        t.mc.last = some (.quiesce, .aborted) ∧ nu = postToNu (.commandDone .quiesce .aborted) s.nu) ∧
      (∀ w l, s.mc.running = .flush w l →
        t.mc.last = some (.flush, .aborted) ∧ nu = postToNu (.commandDone .flush .aborted) s.nu) ∧
      ((∃ i, slotBusy (s.mp.slots.get i) = true) → (∀ i, s.mp.slots.get i ≠ .free) → s.mp.stallMark = false →
        t.nu = postToNu .memoryStalled nu ∧ t.mp.stallMark = true) ∧
      ((∀ i, slotBusy (s.mp.slots.get i) = false) ∨ (∃ i, s.mp.slots.get i = .free) ∨ s.mp.stallMark = true →
        t.nu = nu ∧ t.mp.stallMark = s.mp.stallMark)

/-- R128: RECLAIM_SLOTS is refused in ONLINE; elsewhere every ORPHANED slot becomes FREE, its unsent request is withdrawn, and
the answer counts them. -/
def Obligations.ReclaimFreesTheOrphanedSlots : Prop :=
  ∀ s₀ s : State, FrameFinds s₀ s →
    (s.mc.mode = .online →
      exec .reclaimSlots s₀ = .next (answerFrame { status := .refusedMode, fields := .nothing } false s)) ∧
    (s.mc.mode ≠ .online → ∃ t n, exec .reclaimSlots s₀ = .next t ∧
      n = (Finset.univ.filter (fun i : Fin 16 => slotOrphaned (s.mp.slots.get i) = true)).card ∧
      t.out = { s.out with answers := s.out.answers ++ [{ status := .done, fields := .reclaimed n }] } ∧
      (∀ i, t.mp.slots.get i = if slotOrphaned (s.mp.slots.get i) then .free else s.mp.slots.get i) ∧
      t.mp.sendOrder = s.mp.sendOrder.filter (fun m => !slotOrphaned (s.mp.slots.get (memoryRequestSlot m))) ∧
      t.mp.turn = s.mp.turn ∧ (0 < n → t.mp.stallMark = false) ∧ (n = 0 → t.mp.stallMark = s.mp.stallMark) ∧
      t = { s with mp := t.mp, starvation := t.starvation, mli := t.mli, out := t.out })

/-! ## Laws that every step keeps -/

/-- R117: no two BUSY or ORPHANED slots ever claim one line, and a READY engine's line is unclaimed. -/
def Obligations.LineClaimsStayDistinct : Prop :=
  ∀ s t : State, ClaimLaw s → step s = .next t → ClaimLaw t

/-- R19: the Issue Queue holds the CLOSED entries and no other, each once; entries that own slots are FETCHING or WRITING on
the slot's line. -/
def Obligations.IssueQueueHoldsTheClosedEntries : Prop :=
  ∀ s t : State, IssueLaw s → step s = .next t → IssueLaw t

/-- R3, R10: no line ever has two GATHERING entries, and no held list more than four indices. -/
def Obligations.OneGatheringEntryForALine : Prop :=
  ∀ s t : State, GatherLaw s → step s = .next t → GatherLaw t

/-- R149, R151, R153, R155: OFFLINE and QUIESCED hold nothing pending, QUIESCE runs exactly in DRAINING, and DRAINING never
stands with the drain condition met. -/
def Obligations.ModesHoldWhatTheyPermit : Prop :=
  ∀ s t : State, ModeLaw s → step s = .next t → ModeLaw t

/-- R143: the tag-in-use set is the set of outstanding requests, and no pair is outstanding twice. -/
def Obligations.TagsInUseAreTheOutstandingRequests : Prop :=
  ∀ s t : State, TagLaw s → step s = .next t → TagLaw t

/-- R90, R97: present regions never overlap, and every watermark is line-aligned and lies within its region. -/
def Obligations.RegionsStaySound : Prop :=
  ∀ s t : State, RegionLaw s → step s = .next t → RegionLaw t

/-- R27: the starvation mark is set exactly while an entry waits on the full Ahead List. It holds in states with sound
regions. -/
def Obligations.StarvationMarkFollowsItsCondition : Prop :=
  ∀ s t : State, RegionLaw s → StarvationLaw s → step s = .next t → StarvationLaw t

/-- R99, R135, R160, R162: the Ahead List stays in strictly ascending line order within 48 records, the Intake Queue within
sixteen, the Notice Queue within 32, and the notice line follows the queue. -/
def Obligations.ListsStayOrderedAndBounded : Prop :=
  ∀ s t : State, step s = .next t →
    (AheadLaw s → AheadLaw t) ∧ (IntakeLaw s → IntakeLaw t) ∧ (NoticeLaw s → NoticeLaw t)

/-- The state after reset meets every law. -/
def Obligations.ResetMeetsEveryLaw : Prop :=
  ClaimLaw State.reset ∧ IssueLaw State.reset ∧ GatherLaw State.reset ∧ ModeLaw State.reset ∧ TagLaw State.reset ∧
  RegionLaw State.reset ∧ StarvationLaw State.reset ∧ AheadLaw State.reset ∧ IntakeLaw State.reset ∧
  NoticeLaw State.reset

/-! ## Rules over all commands -/

/-- R148 with Table 8-1: the mode changes on the listed transitions and on no other command or event. R151, R153: an event in
DRAINING after which the drain condition holds makes the mode QUIESCED and ends QUIESCE with DONE, and COMMAND_DONE joins
behind the event's own notices; after any other the drain goes on. It holds in states that meet the law of the modes
(ModesHoldWhatTheyPermit). That COMMAND_DONE stands behind MEMORY_STALLED and behind what the sweep engine posts is the
model's choice (log entry 13, DESIGN CHOICE, unsafe). -/
def Obligations.ModeChangesOnlyAsListed : Prop :=
  (∀ (c : Instr) (s t : State), exec c s = .next t → t.mc.mode = s.mc.mode ∨
    (c = .goOnline ∧ s.mc.mode = .offline ∧ t.mc.mode = .online) ∨
    (c = .quiesce ∧ s.mc.mode = .online ∧ (t.mc.mode = .draining ∨ t.mc.mode = .quiesced)) ∨
    (c = .resume ∧ (s.mc.mode = .draining ∨ s.mc.mode = .quiesced) ∧ t.mc.mode = .online) ∨
    ((c = .resetBridge ∨ c = .powerOnReset ∨ c = .resetReleased) ∧ t.mc.mode = .offline) ∨
    (((∃ time r, c = .memoryResponse time r) ∨ (∃ n, c = .slotDeadline n) ∨ c = .readResponse ∨ c = .syncResponse ∨
      c = .suppressionDiscard) ∧ s.mc.mode = .draining ∧ t.mc.mode = .quiesced)) ∧
  ∀ (c : Instr) (s : State), ModeLaw s → s.held = false → s.mc.mode = .draining →
    ((∃ time r, c = .memoryResponse time r) ∨ (∃ n, c = .slotDeadline n) ∨ c = .readResponse ∨ c = .syncResponse ∨
      c = .suppressionDiscard) →
    ∃ t, exec c s = .next t ∧ DrainTested s t

/-- R96 with Table 5-2, R90, R97: a region keeps its base, size and pattern while present, its watermark never moves back,
READY never returns to SWEEPING, and only DEFINE_REGION makes a record present. SWEEPING becomes READY when the watermark
reaches base + size: each line from it on has been passed in the act, by the end of the engine's write or at its Ahead List
record, and SWEEP_DONE is posted (R110). -/
def Obligations.RegionsChangeOnlyAsListed : Prop :=
  ∀ (c : Instr) (s t : State) (k : Fin 8), exec c s = .next t →
    (s.rsw.regions.get k = .absent → t.rsw.regions.get k ≠ .absent →
      ∃ index base size mode pattern, c = .defineRegion index base size mode pattern) ∧
    (∀ i, s.rsw.regions.get k = .ready i → t.rsw.regions.get k ≠ .ready i →
      t.rsw.regions.get k = .absent ∧ ((∃ x, c = .retireRegion x) ∨ c = .powerOnReset ∨ c = .resetReleased)) ∧
    (∀ i w, s.rsw.regions.get k = .sweeping i w →
      (∃ i' w', t.rsw.regions.get k = .sweeping i' w' ∧ i'.base = i.base ∧ i'.size = i.size ∧
        i'.pattern = i.pattern ∧ w ≤ w' ∧ i.faults ≤ i'.faults) ∨
      (∃ i', t.rsw.regions.get k = .ready i' ∧ i'.base = i.base ∧ i'.size = i.size ∧ i'.pattern = i.pattern ∧
        i.faults ≤ i'.faults ∧
        (∀ line, w ≤ line → line < i.base + i.size → line % 64 = w % 64 →
          (line = w ∧ ∃ l, s.rsw.engine = .writing k l) ∨ ∃ r ∈ s.rsw.ahead, r.line = line) ∧
        (∃ passed, i.base + i.size = w + 64 * passed ∧ 0 < passed) ∧
        (t.nu.queue.length < 32 → ∃ n ∈ t.nu.queue, n.body = .sweepDone k i'.faults)) ∨
      (t.rsw.regions.get k = .absent ∧ ((∃ x, c = .retireRegion x) ∨ c = .powerOnReset ∨ c = .resetReleased)))

/-- R168, R166, R178: every management command that the receiver hears forms exactly one answer, and data out carries the filler
during the request part and the turnaround byte, then the answer, then the filler again. The answer part has the length of
Table 12-6 with DONE and is the status byte alone with any other status. A command that is refused changes no state but the
frame receiver's. -/
def Obligations.RefusalsChangeNoState : Prop :=
  ∀ (c : Instr) (s₀ s t : State), FrameFinds s₀ s → exec c s₀ = .next t →
    ((encodeFrame c).isSome = true → ∃ a, t.out.answers = s.out.answers ++ [a] ∧
      (answerBytes a).length = (if a.status = .done then doneLength c else 1) ∧
      ∀ bytes k, encodeFrame c = some bytes →
        dataOut bytes.length k t =
          if k ≤ bytes.length then 0xFF#8 else (answerBytes a).getD (k - bytes.length - 1) 0xFF#8) ∧
    ((encodeFrame c).isNone = true → t.out.answers = s.out.answers) ∧
    ∀ a, t.out.answers = s.out.answers ++ [a] →
      (a.status = .refusedMode ∨ a.status = .refusedArgument ∨ a.status = .busy ∨ a.status = .unknownCommand) →
      t = answerFrame a false s

/-! ## Frames -/

/-- R166, R178, Table 12-6: the request part of every well-formed management command decodes to that command, and what decodes
is the request part of the command it decodes to. R178, R179, Tables 12-5 to 12-7: an answer part is its status code and then
the fields of its kind in their places, most significant byte first, notice records included. -/
def Obligations.FramesDecodeAndEncodeAgree : Prop :=
  (∀ (c : Instr) (bytes : List Byte), c.wellFormed = true → encodeFrame c = some bytes →
    decodeFrame bytes = some c) ∧
  (∀ (bytes : List Byte) (c : Instr), decodeFrame bytes = some c →
    encodeFrame c = some bytes ∧ c.wellFormed = true) ∧
  ∀ a : Answer, AnswerLaidOut (answerBytes a) a
end

