-- ==== Sys2Proof/Laws/State.lean ====
section
/-! SUPPORT. What each plain update leaves as it was, and what it writes: one lemma for each field, true by unfolding. -/

namespace Sys2Proof.Machine

/-! ### atTime -/

@[simp] theorem atTime_rqp (time : Nat) (s : State) : (atTime time s).rqp = s.rqp := rfl
@[simp] theorem atTime_lat (time : Nat) (s : State) : (atTime time s).lat = s.lat := rfl
@[simp] theorem atTime_starvation (time : Nat) (s : State) : (atTime time s).starvation = s.starvation := rfl
@[simp] theorem atTime_rdp (time : Nat) (s : State) : (atTime time s).rdp = s.rdp := rfl
@[simp] theorem atTime_ord (time : Nat) (s : State) : (atTime time s).ord = s.ord := rfl
@[simp] theorem atTime_rsw (time : Nat) (s : State) : (atTime time s).rsw = s.rsw := rfl
@[simp] theorem atTime_mp (time : Nat) (s : State) : (atTime time s).mp = s.mp := rfl
@[simp] theorem atTime_mc (time : Nat) (s : State) : (atTime time s).mc = s.mc := rfl
@[simp] theorem atTime_nu (time : Nat) (s : State) : (atTime time s).nu = s.nu := rfl
@[simp] theorem atTime_mli (time : Nat) (s : State) : (atTime time s).mli = s.mli := rfl
@[simp] theorem atTime_held (time : Nat) (s : State) : (atTime time s).held = s.held := rfl
@[simp] theorem atTime_out (time : Nat) (s : State) : (atTime time s).out = s.out := rfl
@[simp] theorem atTime_pending (time : Nat) (s : State) : (atTime time s).pending = s.pending := rfl

/-! ### respond -/

@[simp] theorem respond_rqp (r : Requester) (tag : Tag) (status : ResponseStatus) (data : List Byte) (s : State) : (respond r tag status data s).rqp = s.rqp := rfl
@[simp] theorem respond_lat (r : Requester) (tag : Tag) (status : ResponseStatus) (data : List Byte) (s : State) : (respond r tag status data s).lat = s.lat := rfl
@[simp] theorem respond_starvation (r : Requester) (tag : Tag) (status : ResponseStatus) (data : List Byte) (s : State) : (respond r tag status data s).starvation = s.starvation := rfl
@[simp] theorem respond_rdp (r : Requester) (tag : Tag) (status : ResponseStatus) (data : List Byte) (s : State) : (respond r tag status data s).rdp = s.rdp := rfl
@[simp] theorem respond_ord (r : Requester) (tag : Tag) (status : ResponseStatus) (data : List Byte) (s : State) : (respond r tag status data s).ord = s.ord := rfl
@[simp] theorem respond_rsw (r : Requester) (tag : Tag) (status : ResponseStatus) (data : List Byte) (s : State) : (respond r tag status data s).rsw = s.rsw := rfl
@[simp] theorem respond_mp (r : Requester) (tag : Tag) (status : ResponseStatus) (data : List Byte) (s : State) : (respond r tag status data s).mp = s.mp := rfl
@[simp] theorem respond_mc (r : Requester) (tag : Tag) (status : ResponseStatus) (data : List Byte) (s : State) : (respond r tag status data s).mc = s.mc := rfl
@[simp] theorem respond_nu (r : Requester) (tag : Tag) (status : ResponseStatus) (data : List Byte) (s : State) : (respond r tag status data s).nu = s.nu := rfl
@[simp] theorem respond_mli (r : Requester) (tag : Tag) (status : ResponseStatus) (data : List Byte) (s : State) : (respond r tag status data s).mli = s.mli := rfl
@[simp] theorem respond_held (r : Requester) (tag : Tag) (status : ResponseStatus) (data : List Byte) (s : State) : (respond r tag status data s).held = s.held := rfl
@[simp] theorem respond_now (r : Requester) (tag : Tag) (status : ResponseStatus) (data : List Byte) (s : State) : (respond r tag status data s).now = s.now := rfl
@[simp] theorem respond_pending (r : Requester) (tag : Tag) (status : ResponseStatus) (data : List Byte) (s : State) : (respond r tag status data s).pending = s.pending := rfl

/-! ### releaseTag -/

@[simp] theorem releaseTag_lat (r : Requester) (tag : Tag) (s : State) : (releaseTag r tag s).lat = s.lat := rfl
@[simp] theorem releaseTag_starvation (r : Requester) (tag : Tag) (s : State) : (releaseTag r tag s).starvation = s.starvation := rfl
@[simp] theorem releaseTag_rdp (r : Requester) (tag : Tag) (s : State) : (releaseTag r tag s).rdp = s.rdp := rfl
@[simp] theorem releaseTag_ord (r : Requester) (tag : Tag) (s : State) : (releaseTag r tag s).ord = s.ord := rfl
@[simp] theorem releaseTag_rsw (r : Requester) (tag : Tag) (s : State) : (releaseTag r tag s).rsw = s.rsw := rfl
@[simp] theorem releaseTag_mp (r : Requester) (tag : Tag) (s : State) : (releaseTag r tag s).mp = s.mp := rfl
@[simp] theorem releaseTag_mc (r : Requester) (tag : Tag) (s : State) : (releaseTag r tag s).mc = s.mc := rfl
@[simp] theorem releaseTag_nu (r : Requester) (tag : Tag) (s : State) : (releaseTag r tag s).nu = s.nu := rfl
@[simp] theorem releaseTag_mli (r : Requester) (tag : Tag) (s : State) : (releaseTag r tag s).mli = s.mli := rfl
@[simp] theorem releaseTag_held (r : Requester) (tag : Tag) (s : State) : (releaseTag r tag s).held = s.held := rfl
@[simp] theorem releaseTag_now (r : Requester) (tag : Tag) (s : State) : (releaseTag r tag s).now = s.now := rfl
@[simp] theorem releaseTag_out (r : Requester) (tag : Tag) (s : State) : (releaseTag r tag s).out = s.out := rfl
@[simp] theorem releaseTag_pending (r : Requester) (tag : Tag) (s : State) : (releaseTag r tag s).pending = s.pending := rfl

/-! ### holdTag -/

@[simp] theorem holdTag_lat (r : Requester) (tag : Tag) (s : State) : (holdTag r tag s).lat = s.lat := rfl
@[simp] theorem holdTag_starvation (r : Requester) (tag : Tag) (s : State) : (holdTag r tag s).starvation = s.starvation := rfl
@[simp] theorem holdTag_rdp (r : Requester) (tag : Tag) (s : State) : (holdTag r tag s).rdp = s.rdp := rfl
@[simp] theorem holdTag_ord (r : Requester) (tag : Tag) (s : State) : (holdTag r tag s).ord = s.ord := rfl
@[simp] theorem holdTag_rsw (r : Requester) (tag : Tag) (s : State) : (holdTag r tag s).rsw = s.rsw := rfl
@[simp] theorem holdTag_mp (r : Requester) (tag : Tag) (s : State) : (holdTag r tag s).mp = s.mp := rfl
@[simp] theorem holdTag_mc (r : Requester) (tag : Tag) (s : State) : (holdTag r tag s).mc = s.mc := rfl
@[simp] theorem holdTag_nu (r : Requester) (tag : Tag) (s : State) : (holdTag r tag s).nu = s.nu := rfl
@[simp] theorem holdTag_mli (r : Requester) (tag : Tag) (s : State) : (holdTag r tag s).mli = s.mli := rfl
@[simp] theorem holdTag_held (r : Requester) (tag : Tag) (s : State) : (holdTag r tag s).held = s.held := rfl
@[simp] theorem holdTag_now (r : Requester) (tag : Tag) (s : State) : (holdTag r tag s).now = s.now := rfl
@[simp] theorem holdTag_out (r : Requester) (tag : Tag) (s : State) : (holdTag r tag s).out = s.out := rfl
@[simp] theorem holdTag_pending (r : Requester) (tag : Tag) (s : State) : (holdTag r tag s).pending = s.pending := rfl

/-! ### respondTaken -/

@[simp] theorem respondTaken_lat (r : Requester) (tag : Tag) (status : ResponseStatus) (data : List Byte) (s : State) : (respondTaken r tag status data s).lat = s.lat := rfl
@[simp] theorem respondTaken_starvation (r : Requester) (tag : Tag) (status : ResponseStatus) (data : List Byte) (s : State) : (respondTaken r tag status data s).starvation = s.starvation := rfl
@[simp] theorem respondTaken_rdp (r : Requester) (tag : Tag) (status : ResponseStatus) (data : List Byte) (s : State) : (respondTaken r tag status data s).rdp = s.rdp := rfl
@[simp] theorem respondTaken_ord (r : Requester) (tag : Tag) (status : ResponseStatus) (data : List Byte) (s : State) : (respondTaken r tag status data s).ord = s.ord := rfl
@[simp] theorem respondTaken_rsw (r : Requester) (tag : Tag) (status : ResponseStatus) (data : List Byte) (s : State) : (respondTaken r tag status data s).rsw = s.rsw := rfl
@[simp] theorem respondTaken_mp (r : Requester) (tag : Tag) (status : ResponseStatus) (data : List Byte) (s : State) : (respondTaken r tag status data s).mp = s.mp := rfl
@[simp] theorem respondTaken_mc (r : Requester) (tag : Tag) (status : ResponseStatus) (data : List Byte) (s : State) : (respondTaken r tag status data s).mc = s.mc := rfl
@[simp] theorem respondTaken_nu (r : Requester) (tag : Tag) (status : ResponseStatus) (data : List Byte) (s : State) : (respondTaken r tag status data s).nu = s.nu := rfl
@[simp] theorem respondTaken_mli (r : Requester) (tag : Tag) (status : ResponseStatus) (data : List Byte) (s : State) : (respondTaken r tag status data s).mli = s.mli := rfl
@[simp] theorem respondTaken_held (r : Requester) (tag : Tag) (status : ResponseStatus) (data : List Byte) (s : State) : (respondTaken r tag status data s).held = s.held := rfl
@[simp] theorem respondTaken_now (r : Requester) (tag : Tag) (status : ResponseStatus) (data : List Byte) (s : State) : (respondTaken r tag status data s).now = s.now := rfl
@[simp] theorem respondTaken_pending (r : Requester) (tag : Tag) (status : ResponseStatus) (data : List Byte) (s : State) : (respondTaken r tag status data s).pending = s.pending := rfl

/-! ### answerFrame -/

@[simp] theorem answerFrame_rqp (a : Answer) (removes : Bool) (s : State) : (answerFrame a removes s).rqp = s.rqp := rfl
@[simp] theorem answerFrame_lat (a : Answer) (removes : Bool) (s : State) : (answerFrame a removes s).lat = s.lat := rfl
@[simp] theorem answerFrame_starvation (a : Answer) (removes : Bool) (s : State) : (answerFrame a removes s).starvation = s.starvation := rfl
@[simp] theorem answerFrame_rdp (a : Answer) (removes : Bool) (s : State) : (answerFrame a removes s).rdp = s.rdp := rfl
@[simp] theorem answerFrame_ord (a : Answer) (removes : Bool) (s : State) : (answerFrame a removes s).ord = s.ord := rfl
@[simp] theorem answerFrame_rsw (a : Answer) (removes : Bool) (s : State) : (answerFrame a removes s).rsw = s.rsw := rfl
@[simp] theorem answerFrame_mp (a : Answer) (removes : Bool) (s : State) : (answerFrame a removes s).mp = s.mp := rfl
@[simp] theorem answerFrame_mc (a : Answer) (removes : Bool) (s : State) : (answerFrame a removes s).mc = s.mc := rfl
@[simp] theorem answerFrame_nu (a : Answer) (removes : Bool) (s : State) : (answerFrame a removes s).nu = s.nu := rfl
@[simp] theorem answerFrame_held (a : Answer) (removes : Bool) (s : State) : (answerFrame a removes s).held = s.held := rfl
@[simp] theorem answerFrame_now (a : Answer) (removes : Bool) (s : State) : (answerFrame a removes s).now = s.now := rfl
@[simp] theorem answerFrame_pending (a : Answer) (removes : Bool) (s : State) : (answerFrame a removes s).pending = s.pending := rfl

/-! ### answerWith -/

@[simp] theorem answerWith_rqp (status : AnswerStatus) (fields : AnswerFields) (s : State) : (answerWith status fields s).rqp = s.rqp := rfl
@[simp] theorem answerWith_lat (status : AnswerStatus) (fields : AnswerFields) (s : State) : (answerWith status fields s).lat = s.lat := rfl
@[simp] theorem answerWith_starvation (status : AnswerStatus) (fields : AnswerFields) (s : State) : (answerWith status fields s).starvation = s.starvation := rfl
@[simp] theorem answerWith_rdp (status : AnswerStatus) (fields : AnswerFields) (s : State) : (answerWith status fields s).rdp = s.rdp := rfl
@[simp] theorem answerWith_ord (status : AnswerStatus) (fields : AnswerFields) (s : State) : (answerWith status fields s).ord = s.ord := rfl
@[simp] theorem answerWith_rsw (status : AnswerStatus) (fields : AnswerFields) (s : State) : (answerWith status fields s).rsw = s.rsw := rfl
@[simp] theorem answerWith_mp (status : AnswerStatus) (fields : AnswerFields) (s : State) : (answerWith status fields s).mp = s.mp := rfl
@[simp] theorem answerWith_mc (status : AnswerStatus) (fields : AnswerFields) (s : State) : (answerWith status fields s).mc = s.mc := rfl
@[simp] theorem answerWith_nu (status : AnswerStatus) (fields : AnswerFields) (s : State) : (answerWith status fields s).nu = s.nu := rfl
@[simp] theorem answerWith_held (status : AnswerStatus) (fields : AnswerFields) (s : State) : (answerWith status fields s).held = s.held := rfl
@[simp] theorem answerWith_now (status : AnswerStatus) (fields : AnswerFields) (s : State) : (answerWith status fields s).now = s.now := rfl
@[simp] theorem answerWith_pending (status : AnswerStatus) (fields : AnswerFields) (s : State) : (answerWith status fields s).pending = s.pending := rfl

/-! ### answer -/

@[simp] theorem answer_rqp (status : AnswerStatus) (s : State) : (answer status s).rqp = s.rqp := rfl
@[simp] theorem answer_lat (status : AnswerStatus) (s : State) : (answer status s).lat = s.lat := rfl
@[simp] theorem answer_starvation (status : AnswerStatus) (s : State) : (answer status s).starvation = s.starvation := rfl
@[simp] theorem answer_rdp (status : AnswerStatus) (s : State) : (answer status s).rdp = s.rdp := rfl
@[simp] theorem answer_ord (status : AnswerStatus) (s : State) : (answer status s).ord = s.ord := rfl
@[simp] theorem answer_rsw (status : AnswerStatus) (s : State) : (answer status s).rsw = s.rsw := rfl
@[simp] theorem answer_mp (status : AnswerStatus) (s : State) : (answer status s).mp = s.mp := rfl
@[simp] theorem answer_mc (status : AnswerStatus) (s : State) : (answer status s).mc = s.mc := rfl
@[simp] theorem answer_nu (status : AnswerStatus) (s : State) : (answer status s).nu = s.nu := rfl
@[simp] theorem answer_held (status : AnswerStatus) (s : State) : (answer status s).held = s.held := rfl
@[simp] theorem answer_now (status : AnswerStatus) (s : State) : (answer status s).now = s.now := rfl
@[simp] theorem answer_pending (status : AnswerStatus) (s : State) : (answer status s).pending = s.pending := rfl

/-! ### setFailureFlags -/

@[simp] theorem setFailureFlags_rqp (who : FinSet 16) (s : State) : (setFailureFlags who s).rqp = s.rqp := rfl
@[simp] theorem setFailureFlags_lat (who : FinSet 16) (s : State) : (setFailureFlags who s).lat = s.lat := rfl
@[simp] theorem setFailureFlags_starvation (who : FinSet 16) (s : State) : (setFailureFlags who s).starvation = s.starvation := rfl
@[simp] theorem setFailureFlags_rdp (who : FinSet 16) (s : State) : (setFailureFlags who s).rdp = s.rdp := rfl
@[simp] theorem setFailureFlags_rsw (who : FinSet 16) (s : State) : (setFailureFlags who s).rsw = s.rsw := rfl
@[simp] theorem setFailureFlags_mp (who : FinSet 16) (s : State) : (setFailureFlags who s).mp = s.mp := rfl
@[simp] theorem setFailureFlags_mc (who : FinSet 16) (s : State) : (setFailureFlags who s).mc = s.mc := rfl
@[simp] theorem setFailureFlags_nu (who : FinSet 16) (s : State) : (setFailureFlags who s).nu = s.nu := rfl
@[simp] theorem setFailureFlags_mli (who : FinSet 16) (s : State) : (setFailureFlags who s).mli = s.mli := rfl
@[simp] theorem setFailureFlags_held (who : FinSet 16) (s : State) : (setFailureFlags who s).held = s.held := rfl
@[simp] theorem setFailureFlags_now (who : FinSet 16) (s : State) : (setFailureFlags who s).now = s.now := rfl
@[simp] theorem setFailureFlags_out (who : FinSet 16) (s : State) : (setFailureFlags who s).out = s.out := rfl
@[simp] theorem setFailureFlags_pending (who : FinSet 16) (s : State) : (setFailureFlags who s).pending = s.pending := rfl

/-! ### clearFailureFlag -/

@[simp] theorem clearFailureFlag_rqp (r : Requester) (s : State) : (clearFailureFlag r s).rqp = s.rqp := rfl
@[simp] theorem clearFailureFlag_lat (r : Requester) (s : State) : (clearFailureFlag r s).lat = s.lat := rfl
@[simp] theorem clearFailureFlag_starvation (r : Requester) (s : State) : (clearFailureFlag r s).starvation = s.starvation := rfl
@[simp] theorem clearFailureFlag_rdp (r : Requester) (s : State) : (clearFailureFlag r s).rdp = s.rdp := rfl
@[simp] theorem clearFailureFlag_rsw (r : Requester) (s : State) : (clearFailureFlag r s).rsw = s.rsw := rfl
@[simp] theorem clearFailureFlag_mp (r : Requester) (s : State) : (clearFailureFlag r s).mp = s.mp := rfl
@[simp] theorem clearFailureFlag_mc (r : Requester) (s : State) : (clearFailureFlag r s).mc = s.mc := rfl
@[simp] theorem clearFailureFlag_nu (r : Requester) (s : State) : (clearFailureFlag r s).nu = s.nu := rfl
@[simp] theorem clearFailureFlag_mli (r : Requester) (s : State) : (clearFailureFlag r s).mli = s.mli := rfl
@[simp] theorem clearFailureFlag_held (r : Requester) (s : State) : (clearFailureFlag r s).held = s.held := rfl
@[simp] theorem clearFailureFlag_now (r : Requester) (s : State) : (clearFailureFlag r s).now = s.now := rfl
@[simp] theorem clearFailureFlag_out (r : Requester) (s : State) : (clearFailureFlag r s).out = s.out := rfl
@[simp] theorem clearFailureFlag_pending (r : Requester) (s : State) : (clearFailureFlag r s).pending = s.pending := rfl

/-! ### countOne -/

@[simp] theorem countOne_rqp (which : Counter) (s : State) : (countOne which s).rqp = s.rqp := rfl
@[simp] theorem countOne_lat (which : Counter) (s : State) : (countOne which s).lat = s.lat := rfl
@[simp] theorem countOne_starvation (which : Counter) (s : State) : (countOne which s).starvation = s.starvation := rfl
@[simp] theorem countOne_rdp (which : Counter) (s : State) : (countOne which s).rdp = s.rdp := rfl
@[simp] theorem countOne_ord (which : Counter) (s : State) : (countOne which s).ord = s.ord := rfl
@[simp] theorem countOne_rsw (which : Counter) (s : State) : (countOne which s).rsw = s.rsw := rfl
@[simp] theorem countOne_mp (which : Counter) (s : State) : (countOne which s).mp = s.mp := rfl
@[simp] theorem countOne_mc (which : Counter) (s : State) : (countOne which s).mc = s.mc := rfl
@[simp] theorem countOne_mli (which : Counter) (s : State) : (countOne which s).mli = s.mli := rfl
@[simp] theorem countOne_held (which : Counter) (s : State) : (countOne which s).held = s.held := rfl
@[simp] theorem countOne_now (which : Counter) (s : State) : (countOne which s).now = s.now := rfl
@[simp] theorem countOne_out (which : Counter) (s : State) : (countOne which s).out = s.out := rfl
@[simp] theorem countOne_pending (which : Counter) (s : State) : (countOne which s).pending = s.pending := rfl

/-! ### post -/

@[simp] theorem post_rqp (body : NoticeBody) (s : State) : (post body s).rqp = s.rqp := rfl
@[simp] theorem post_lat (body : NoticeBody) (s : State) : (post body s).lat = s.lat := rfl
@[simp] theorem post_starvation (body : NoticeBody) (s : State) : (post body s).starvation = s.starvation := rfl
@[simp] theorem post_rdp (body : NoticeBody) (s : State) : (post body s).rdp = s.rdp := rfl
@[simp] theorem post_ord (body : NoticeBody) (s : State) : (post body s).ord = s.ord := rfl
@[simp] theorem post_rsw (body : NoticeBody) (s : State) : (post body s).rsw = s.rsw := rfl
@[simp] theorem post_mp (body : NoticeBody) (s : State) : (post body s).mp = s.mp := rfl
@[simp] theorem post_mc (body : NoticeBody) (s : State) : (post body s).mc = s.mc := rfl
@[simp] theorem post_mli (body : NoticeBody) (s : State) : (post body s).mli = s.mli := rfl
@[simp] theorem post_held (body : NoticeBody) (s : State) : (post body s).held = s.held := rfl
@[simp] theorem post_now (body : NoticeBody) (s : State) : (post body s).now = s.now := rfl
@[simp] theorem post_out (body : NoticeBody) (s : State) : (post body s).out = s.out := rfl
@[simp] theorem post_pending (body : NoticeBody) (s : State) : (post body s).pending = s.pending := rfl

/-! ### closeEntry -/

@[simp] theorem closeEntry_rqp (cause : CloseCause) (i : Fin 32) (s : State) : (closeEntry cause i s).rqp = s.rqp := rfl
@[simp] theorem closeEntry_starvation (cause : CloseCause) (i : Fin 32) (s : State) : (closeEntry cause i s).starvation = s.starvation := rfl
@[simp] theorem closeEntry_rdp (cause : CloseCause) (i : Fin 32) (s : State) : (closeEntry cause i s).rdp = s.rdp := rfl
@[simp] theorem closeEntry_ord (cause : CloseCause) (i : Fin 32) (s : State) : (closeEntry cause i s).ord = s.ord := rfl
@[simp] theorem closeEntry_rsw (cause : CloseCause) (i : Fin 32) (s : State) : (closeEntry cause i s).rsw = s.rsw := rfl
@[simp] theorem closeEntry_mp (cause : CloseCause) (i : Fin 32) (s : State) : (closeEntry cause i s).mp = s.mp := rfl
@[simp] theorem closeEntry_mc (cause : CloseCause) (i : Fin 32) (s : State) : (closeEntry cause i s).mc = s.mc := rfl
@[simp] theorem closeEntry_nu (cause : CloseCause) (i : Fin 32) (s : State) : (closeEntry cause i s).nu = s.nu := rfl
@[simp] theorem closeEntry_mli (cause : CloseCause) (i : Fin 32) (s : State) : (closeEntry cause i s).mli = s.mli := rfl
@[simp] theorem closeEntry_held (cause : CloseCause) (i : Fin 32) (s : State) : (closeEntry cause i s).held = s.held := rfl
@[simp] theorem closeEntry_now (cause : CloseCause) (i : Fin 32) (s : State) : (closeEntry cause i s).now = s.now := rfl
@[simp] theorem closeEntry_out (cause : CloseCause) (i : Fin 32) (s : State) : (closeEntry cause i s).out = s.out := rfl
@[simp] theorem closeEntry_pending (cause : CloseCause) (i : Fin 32) (s : State) : (closeEntry cause i s).pending = s.pending := rfl

/-! ### closeWhere -/

@[simp] theorem closeWhere_rqp (cause : CloseCause) (p : Entry → Bool) (s : State) : (closeWhere cause p s).rqp = s.rqp := rfl
@[simp] theorem closeWhere_starvation (cause : CloseCause) (p : Entry → Bool) (s : State) : (closeWhere cause p s).starvation = s.starvation := rfl
@[simp] theorem closeWhere_rdp (cause : CloseCause) (p : Entry → Bool) (s : State) : (closeWhere cause p s).rdp = s.rdp := rfl
@[simp] theorem closeWhere_ord (cause : CloseCause) (p : Entry → Bool) (s : State) : (closeWhere cause p s).ord = s.ord := rfl
@[simp] theorem closeWhere_rsw (cause : CloseCause) (p : Entry → Bool) (s : State) : (closeWhere cause p s).rsw = s.rsw := rfl
@[simp] theorem closeWhere_mp (cause : CloseCause) (p : Entry → Bool) (s : State) : (closeWhere cause p s).mp = s.mp := rfl
@[simp] theorem closeWhere_mc (cause : CloseCause) (p : Entry → Bool) (s : State) : (closeWhere cause p s).mc = s.mc := rfl
@[simp] theorem closeWhere_nu (cause : CloseCause) (p : Entry → Bool) (s : State) : (closeWhere cause p s).nu = s.nu := rfl
@[simp] theorem closeWhere_mli (cause : CloseCause) (p : Entry → Bool) (s : State) : (closeWhere cause p s).mli = s.mli := rfl
@[simp] theorem closeWhere_held (cause : CloseCause) (p : Entry → Bool) (s : State) : (closeWhere cause p s).held = s.held := rfl
@[simp] theorem closeWhere_now (cause : CloseCause) (p : Entry → Bool) (s : State) : (closeWhere cause p s).now = s.now := rfl
@[simp] theorem closeWhere_out (cause : CloseCause) (p : Entry → Bool) (s : State) : (closeWhere cause p s).out = s.out := rfl
@[simp] theorem closeWhere_pending (cause : CloseCause) (p : Entry → Bool) (s : State) : (closeWhere cause p s).pending = s.pending := rfl

/-! ### aheadWritten -/

@[simp] theorem aheadWritten_rqp (line : Nat) (s : State) : (aheadWritten line s).rqp = s.rqp := rfl
@[simp] theorem aheadWritten_lat (line : Nat) (s : State) : (aheadWritten line s).lat = s.lat := rfl
@[simp] theorem aheadWritten_starvation (line : Nat) (s : State) : (aheadWritten line s).starvation = s.starvation := rfl
@[simp] theorem aheadWritten_rdp (line : Nat) (s : State) : (aheadWritten line s).rdp = s.rdp := rfl
@[simp] theorem aheadWritten_ord (line : Nat) (s : State) : (aheadWritten line s).ord = s.ord := rfl
@[simp] theorem aheadWritten_mp (line : Nat) (s : State) : (aheadWritten line s).mp = s.mp := rfl
@[simp] theorem aheadWritten_mc (line : Nat) (s : State) : (aheadWritten line s).mc = s.mc := rfl
@[simp] theorem aheadWritten_nu (line : Nat) (s : State) : (aheadWritten line s).nu = s.nu := rfl
@[simp] theorem aheadWritten_mli (line : Nat) (s : State) : (aheadWritten line s).mli = s.mli := rfl
@[simp] theorem aheadWritten_held (line : Nat) (s : State) : (aheadWritten line s).held = s.held := rfl
@[simp] theorem aheadWritten_now (line : Nat) (s : State) : (aheadWritten line s).now = s.now := rfl
@[simp] theorem aheadWritten_out (line : Nat) (s : State) : (aheadWritten line s).out = s.out := rfl
@[simp] theorem aheadWritten_pending (line : Nat) (s : State) : (aheadWritten line s).pending = s.pending := rfl

/-! ### aheadRemoved -/

@[simp] theorem aheadRemoved_rqp (line : Nat) (s : State) : (aheadRemoved line s).rqp = s.rqp := rfl
@[simp] theorem aheadRemoved_lat (line : Nat) (s : State) : (aheadRemoved line s).lat = s.lat := rfl
@[simp] theorem aheadRemoved_starvation (line : Nat) (s : State) : (aheadRemoved line s).starvation = s.starvation := rfl
@[simp] theorem aheadRemoved_rdp (line : Nat) (s : State) : (aheadRemoved line s).rdp = s.rdp := rfl
@[simp] theorem aheadRemoved_ord (line : Nat) (s : State) : (aheadRemoved line s).ord = s.ord := rfl
@[simp] theorem aheadRemoved_mp (line : Nat) (s : State) : (aheadRemoved line s).mp = s.mp := rfl
@[simp] theorem aheadRemoved_mc (line : Nat) (s : State) : (aheadRemoved line s).mc = s.mc := rfl
@[simp] theorem aheadRemoved_nu (line : Nat) (s : State) : (aheadRemoved line s).nu = s.nu := rfl
@[simp] theorem aheadRemoved_mli (line : Nat) (s : State) : (aheadRemoved line s).mli = s.mli := rfl
@[simp] theorem aheadRemoved_held (line : Nat) (s : State) : (aheadRemoved line s).held = s.held := rfl
@[simp] theorem aheadRemoved_now (line : Nat) (s : State) : (aheadRemoved line s).now = s.now := rfl
@[simp] theorem aheadRemoved_out (line : Nat) (s : State) : (aheadRemoved line s).out = s.out := rfl
@[simp] theorem aheadRemoved_pending (line : Nat) (s : State) : (aheadRemoved line s).pending = s.pending := rfl

/-! ### dropAhead -/

@[simp] theorem dropAhead_rqp (line : Nat) (s : State) : (dropAhead line s).rqp = s.rqp := rfl
@[simp] theorem dropAhead_lat (line : Nat) (s : State) : (dropAhead line s).lat = s.lat := rfl
@[simp] theorem dropAhead_starvation (line : Nat) (s : State) : (dropAhead line s).starvation = s.starvation := rfl
@[simp] theorem dropAhead_rdp (line : Nat) (s : State) : (dropAhead line s).rdp = s.rdp := rfl
@[simp] theorem dropAhead_ord (line : Nat) (s : State) : (dropAhead line s).ord = s.ord := rfl
@[simp] theorem dropAhead_mp (line : Nat) (s : State) : (dropAhead line s).mp = s.mp := rfl
@[simp] theorem dropAhead_mc (line : Nat) (s : State) : (dropAhead line s).mc = s.mc := rfl
@[simp] theorem dropAhead_nu (line : Nat) (s : State) : (dropAhead line s).nu = s.nu := rfl
@[simp] theorem dropAhead_mli (line : Nat) (s : State) : (dropAhead line s).mli = s.mli := rfl
@[simp] theorem dropAhead_held (line : Nat) (s : State) : (dropAhead line s).held = s.held := rfl
@[simp] theorem dropAhead_now (line : Nat) (s : State) : (dropAhead line s).now = s.now := rfl
@[simp] theorem dropAhead_out (line : Nat) (s : State) : (dropAhead line s).out = s.out := rfl
@[simp] theorem dropAhead_pending (line : Nat) (s : State) : (dropAhead line s).pending = s.pending := rfl

/-! ### setEngine -/

@[simp] theorem setEngine_rqp (e : Engine) (s : State) : (setEngine e s).rqp = s.rqp := rfl
@[simp] theorem setEngine_lat (e : Engine) (s : State) : (setEngine e s).lat = s.lat := rfl
@[simp] theorem setEngine_starvation (e : Engine) (s : State) : (setEngine e s).starvation = s.starvation := rfl
@[simp] theorem setEngine_rdp (e : Engine) (s : State) : (setEngine e s).rdp = s.rdp := rfl
@[simp] theorem setEngine_ord (e : Engine) (s : State) : (setEngine e s).ord = s.ord := rfl
@[simp] theorem setEngine_mp (e : Engine) (s : State) : (setEngine e s).mp = s.mp := rfl
@[simp] theorem setEngine_mc (e : Engine) (s : State) : (setEngine e s).mc = s.mc := rfl
@[simp] theorem setEngine_nu (e : Engine) (s : State) : (setEngine e s).nu = s.nu := rfl
@[simp] theorem setEngine_mli (e : Engine) (s : State) : (setEngine e s).mli = s.mli := rfl
@[simp] theorem setEngine_held (e : Engine) (s : State) : (setEngine e s).held = s.held := rfl
@[simp] theorem setEngine_now (e : Engine) (s : State) : (setEngine e s).now = s.now := rfl
@[simp] theorem setEngine_out (e : Engine) (s : State) : (setEngine e s).out = s.out := rfl
@[simp] theorem setEngine_pending (e : Engine) (s : State) : (setEngine e s).pending = s.pending := rfl

/-! ### freeSlot -/

@[simp] theorem freeSlot_rqp (i : Fin 16) (s : State) : (freeSlot i s).rqp = s.rqp := rfl
@[simp] theorem freeSlot_lat (i : Fin 16) (s : State) : (freeSlot i s).lat = s.lat := rfl
@[simp] theorem freeSlot_starvation (i : Fin 16) (s : State) : (freeSlot i s).starvation = s.starvation := rfl
@[simp] theorem freeSlot_rdp (i : Fin 16) (s : State) : (freeSlot i s).rdp = s.rdp := rfl
@[simp] theorem freeSlot_ord (i : Fin 16) (s : State) : (freeSlot i s).ord = s.ord := rfl
@[simp] theorem freeSlot_rsw (i : Fin 16) (s : State) : (freeSlot i s).rsw = s.rsw := rfl
@[simp] theorem freeSlot_mc (i : Fin 16) (s : State) : (freeSlot i s).mc = s.mc := rfl
@[simp] theorem freeSlot_nu (i : Fin 16) (s : State) : (freeSlot i s).nu = s.nu := rfl
@[simp] theorem freeSlot_mli (i : Fin 16) (s : State) : (freeSlot i s).mli = s.mli := rfl
@[simp] theorem freeSlot_held (i : Fin 16) (s : State) : (freeSlot i s).held = s.held := rfl
@[simp] theorem freeSlot_now (i : Fin 16) (s : State) : (freeSlot i s).now = s.now := rfl
@[simp] theorem freeSlot_out (i : Fin 16) (s : State) : (freeSlot i s).out = s.out := rfl
@[simp] theorem freeSlot_pending (i : Fin 16) (s : State) : (freeSlot i s).pending = s.pending := rfl

/-! ### engageSlot -/

@[simp] theorem engageSlot_rqp (i : Fin 16) (owner : Owner) (line : Nat) (request : MemoryRequest) (s : State) : (engageSlot i owner line request s).rqp = s.rqp := rfl
@[simp] theorem engageSlot_lat (i : Fin 16) (owner : Owner) (line : Nat) (request : MemoryRequest) (s : State) : (engageSlot i owner line request s).lat = s.lat := rfl
@[simp] theorem engageSlot_starvation (i : Fin 16) (owner : Owner) (line : Nat) (request : MemoryRequest) (s : State) : (engageSlot i owner line request s).starvation = s.starvation := rfl
@[simp] theorem engageSlot_rdp (i : Fin 16) (owner : Owner) (line : Nat) (request : MemoryRequest) (s : State) : (engageSlot i owner line request s).rdp = s.rdp := rfl
@[simp] theorem engageSlot_ord (i : Fin 16) (owner : Owner) (line : Nat) (request : MemoryRequest) (s : State) : (engageSlot i owner line request s).ord = s.ord := rfl
@[simp] theorem engageSlot_rsw (i : Fin 16) (owner : Owner) (line : Nat) (request : MemoryRequest) (s : State) : (engageSlot i owner line request s).rsw = s.rsw := rfl
@[simp] theorem engageSlot_mc (i : Fin 16) (owner : Owner) (line : Nat) (request : MemoryRequest) (s : State) : (engageSlot i owner line request s).mc = s.mc := rfl
@[simp] theorem engageSlot_nu (i : Fin 16) (owner : Owner) (line : Nat) (request : MemoryRequest) (s : State) : (engageSlot i owner line request s).nu = s.nu := rfl
@[simp] theorem engageSlot_mli (i : Fin 16) (owner : Owner) (line : Nat) (request : MemoryRequest) (s : State) : (engageSlot i owner line request s).mli = s.mli := rfl
@[simp] theorem engageSlot_held (i : Fin 16) (owner : Owner) (line : Nat) (request : MemoryRequest) (s : State) : (engageSlot i owner line request s).held = s.held := rfl
@[simp] theorem engageSlot_now (i : Fin 16) (owner : Owner) (line : Nat) (request : MemoryRequest) (s : State) : (engageSlot i owner line request s).now = s.now := rfl
@[simp] theorem engageSlot_out (i : Fin 16) (owner : Owner) (line : Nat) (request : MemoryRequest) (s : State) : (engageSlot i owner line request s).out = s.out := rfl
@[simp] theorem engageSlot_pending (i : Fin 16) (owner : Owner) (line : Nat) (request : MemoryRequest) (s : State) : (engageSlot i owner line request s).pending = s.pending := rfl

/-! ### judgeStarvation -/

@[simp] theorem judgeStarvation_rqp (s : State) : (judgeStarvation s).rqp = s.rqp := rfl
@[simp] theorem judgeStarvation_lat (s : State) : (judgeStarvation s).lat = s.lat := rfl
@[simp] theorem judgeStarvation_rdp (s : State) : (judgeStarvation s).rdp = s.rdp := rfl
@[simp] theorem judgeStarvation_ord (s : State) : (judgeStarvation s).ord = s.ord := rfl
@[simp] theorem judgeStarvation_rsw (s : State) : (judgeStarvation s).rsw = s.rsw := rfl
@[simp] theorem judgeStarvation_mp (s : State) : (judgeStarvation s).mp = s.mp := rfl
@[simp] theorem judgeStarvation_mc (s : State) : (judgeStarvation s).mc = s.mc := rfl
@[simp] theorem judgeStarvation_nu (s : State) : (judgeStarvation s).nu = s.nu := rfl
@[simp] theorem judgeStarvation_mli (s : State) : (judgeStarvation s).mli = s.mli := rfl
@[simp] theorem judgeStarvation_held (s : State) : (judgeStarvation s).held = s.held := rfl
@[simp] theorem judgeStarvation_now (s : State) : (judgeStarvation s).now = s.now := rfl
@[simp] theorem judgeStarvation_out (s : State) : (judgeStarvation s).out = s.out := rfl
@[simp] theorem judgeStarvation_pending (s : State) : (judgeStarvation s).pending = s.pending := rfl

/-! ### endLong -/

@[simp] theorem endLong_rqp (c : LongCommand) (o : LongOutcome) (s : State) : (endLong c o s).rqp = s.rqp := rfl
@[simp] theorem endLong_lat (c : LongCommand) (o : LongOutcome) (s : State) : (endLong c o s).lat = s.lat := rfl
@[simp] theorem endLong_starvation (c : LongCommand) (o : LongOutcome) (s : State) : (endLong c o s).starvation = s.starvation := rfl
@[simp] theorem endLong_rdp (c : LongCommand) (o : LongOutcome) (s : State) : (endLong c o s).rdp = s.rdp := rfl
@[simp] theorem endLong_ord (c : LongCommand) (o : LongOutcome) (s : State) : (endLong c o s).ord = s.ord := rfl
@[simp] theorem endLong_rsw (c : LongCommand) (o : LongOutcome) (s : State) : (endLong c o s).rsw = s.rsw := rfl
@[simp] theorem endLong_mp (c : LongCommand) (o : LongOutcome) (s : State) : (endLong c o s).mp = s.mp := rfl
@[simp] theorem endLong_mli (c : LongCommand) (o : LongOutcome) (s : State) : (endLong c o s).mli = s.mli := rfl
@[simp] theorem endLong_held (c : LongCommand) (o : LongOutcome) (s : State) : (endLong c o s).held = s.held := rfl
@[simp] theorem endLong_now (c : LongCommand) (o : LongOutcome) (s : State) : (endLong c o s).now = s.now := rfl
@[simp] theorem endLong_out (c : LongCommand) (o : LongOutcome) (s : State) : (endLong c o s).out = s.out := rfl
@[simp] theorem endLong_pending (c : LongCommand) (o : LongOutcome) (s : State) : (endLong c o s).pending = s.pending := rfl

/-! ### freeEntry -/

@[simp] theorem freeEntry_rqp (i : Fin 32) (s : State) : (freeEntry i s).rqp = s.rqp := rfl
@[simp] theorem freeEntry_starvation (i : Fin 32) (s : State) : (freeEntry i s).starvation = s.starvation := rfl
@[simp] theorem freeEntry_rdp (i : Fin 32) (s : State) : (freeEntry i s).rdp = s.rdp := rfl
@[simp] theorem freeEntry_ord (i : Fin 32) (s : State) : (freeEntry i s).ord = s.ord := rfl
@[simp] theorem freeEntry_rsw (i : Fin 32) (s : State) : (freeEntry i s).rsw = s.rsw := rfl
@[simp] theorem freeEntry_mp (i : Fin 32) (s : State) : (freeEntry i s).mp = s.mp := rfl
@[simp] theorem freeEntry_mc (i : Fin 32) (s : State) : (freeEntry i s).mc = s.mc := rfl
@[simp] theorem freeEntry_nu (i : Fin 32) (s : State) : (freeEntry i s).nu = s.nu := rfl
@[simp] theorem freeEntry_mli (i : Fin 32) (s : State) : (freeEntry i s).mli = s.mli := rfl
@[simp] theorem freeEntry_held (i : Fin 32) (s : State) : (freeEntry i s).held = s.held := rfl
@[simp] theorem freeEntry_now (i : Fin 32) (s : State) : (freeEntry i s).now = s.now := rfl
@[simp] theorem freeEntry_out (i : Fin 32) (s : State) : (freeEntry i s).out = s.out := rfl
@[simp] theorem freeEntry_pending (i : Fin 32) (s : State) : (freeEntry i s).pending = s.pending := rfl

/-! ### forgetEntry -/

@[simp] theorem forgetEntry_rqp (i : Fin 32) (failed : Bool) (s : State) : (forgetEntry i failed s).rqp = s.rqp := rfl
@[simp] theorem forgetEntry_starvation (i : Fin 32) (failed : Bool) (s : State) : (forgetEntry i failed s).starvation = s.starvation := rfl
@[simp] theorem forgetEntry_rdp (i : Fin 32) (failed : Bool) (s : State) : (forgetEntry i failed s).rdp = s.rdp := rfl
@[simp] theorem forgetEntry_rsw (i : Fin 32) (failed : Bool) (s : State) : (forgetEntry i failed s).rsw = s.rsw := rfl
@[simp] theorem forgetEntry_mp (i : Fin 32) (failed : Bool) (s : State) : (forgetEntry i failed s).mp = s.mp := rfl
@[simp] theorem forgetEntry_nu (i : Fin 32) (failed : Bool) (s : State) : (forgetEntry i failed s).nu = s.nu := rfl
@[simp] theorem forgetEntry_mli (i : Fin 32) (failed : Bool) (s : State) : (forgetEntry i failed s).mli = s.mli := rfl
@[simp] theorem forgetEntry_held (i : Fin 32) (failed : Bool) (s : State) : (forgetEntry i failed s).held = s.held := rfl
@[simp] theorem forgetEntry_now (i : Fin 32) (failed : Bool) (s : State) : (forgetEntry i failed s).now = s.now := rfl
@[simp] theorem forgetEntry_out (i : Fin 32) (failed : Bool) (s : State) : (forgetEntry i failed s).out = s.out := rfl
@[simp] theorem forgetEntry_pending (i : Fin 32) (failed : Bool) (s : State) : (forgetEntry i failed s).pending = s.pending := rfl

/-! ### putEntry -/

@[simp] theorem putEntry_rqp (i : Fin 32) (e : Entry) (s : State) : (putEntry i e s).rqp = s.rqp := rfl
@[simp] theorem putEntry_starvation (i : Fin 32) (e : Entry) (s : State) : (putEntry i e s).starvation = s.starvation := rfl
@[simp] theorem putEntry_rdp (i : Fin 32) (e : Entry) (s : State) : (putEntry i e s).rdp = s.rdp := rfl
@[simp] theorem putEntry_ord (i : Fin 32) (e : Entry) (s : State) : (putEntry i e s).ord = s.ord := rfl
@[simp] theorem putEntry_rsw (i : Fin 32) (e : Entry) (s : State) : (putEntry i e s).rsw = s.rsw := rfl
@[simp] theorem putEntry_mp (i : Fin 32) (e : Entry) (s : State) : (putEntry i e s).mp = s.mp := rfl
@[simp] theorem putEntry_mc (i : Fin 32) (e : Entry) (s : State) : (putEntry i e s).mc = s.mc := rfl
@[simp] theorem putEntry_nu (i : Fin 32) (e : Entry) (s : State) : (putEntry i e s).nu = s.nu := rfl
@[simp] theorem putEntry_mli (i : Fin 32) (e : Entry) (s : State) : (putEntry i e s).mli = s.mli := rfl
@[simp] theorem putEntry_held (i : Fin 32) (e : Entry) (s : State) : (putEntry i e s).held = s.held := rfl
@[simp] theorem putEntry_now (i : Fin 32) (e : Entry) (s : State) : (putEntry i e s).now = s.now := rfl
@[simp] theorem putEntry_out (i : Fin 32) (e : Entry) (s : State) : (putEntry i e s).out = s.out := rfl
@[simp] theorem putEntry_pending (i : Fin 32) (e : Entry) (s : State) : (putEntry i e s).pending = s.pending := rfl

/-! ### acceptFromLink -/

@[simp] theorem acceptFromLink_lat (s : State) : (acceptFromLink s).lat = s.lat := rfl
@[simp] theorem acceptFromLink_starvation (s : State) : (acceptFromLink s).starvation = s.starvation := rfl
@[simp] theorem acceptFromLink_rdp (s : State) : (acceptFromLink s).rdp = s.rdp := rfl
@[simp] theorem acceptFromLink_ord (s : State) : (acceptFromLink s).ord = s.ord := rfl
@[simp] theorem acceptFromLink_rsw (s : State) : (acceptFromLink s).rsw = s.rsw := rfl
@[simp] theorem acceptFromLink_mp (s : State) : (acceptFromLink s).mp = s.mp := rfl
@[simp] theorem acceptFromLink_mc (s : State) : (acceptFromLink s).mc = s.mc := rfl
@[simp] theorem acceptFromLink_nu (s : State) : (acceptFromLink s).nu = s.nu := rfl
@[simp] theorem acceptFromLink_mli (s : State) : (acceptFromLink s).mli = s.mli := rfl
@[simp] theorem acceptFromLink_held (s : State) : (acceptFromLink s).held = s.held := rfl
@[simp] theorem acceptFromLink_now (s : State) : (acceptFromLink s).now = s.now := rfl
@[simp] theorem acceptFromLink_out (s : State) : (acceptFromLink s).out = s.out := rfl
@[simp] theorem acceptFromLink_pending (s : State) : (acceptFromLink s).pending = s.pending := rfl

/-! ### The written fields -/

@[simp] theorem atTime_now (time : Nat) (s : State) : (atTime time s).now = max s.now time := rfl
@[simp] theorem post_nu (body : NoticeBody) (s : State) : (post body s).nu = postToNu body s.nu := rfl
@[simp] theorem closeEntry_lat (cause : CloseCause) (i : Fin 32) (s : State) :
    (closeEntry cause i s).lat = closeIn cause i s.lat := rfl
@[simp] theorem closeWhere_lat (cause : CloseCause) (p : Entry → Bool) (s : State) : (closeWhere cause p s).lat =
    closeEach cause (s.lat.entries.indices (entryIs (fun e => isGathering e && p e))) s.lat := rfl
@[simp] theorem setEngine_rsw (e : Engine) (s : State) : (setEngine e s).rsw = { s.rsw with engine := e } := rfl
@[simp] theorem judgeStarvation_starvation (s : State) : (judgeStarvation s).starvation = starving s := rfl
@[simp] theorem freeSlot_mp (i : Fin 16) (s : State) :
    (freeSlot i s).mp = { s.mp with slots := s.mp.slots.set i .free, stallMark := false } := rfl
@[simp] theorem engageSlot_mp (i : Fin 16) (owner : Owner) (line : Nat) (request : MemoryRequest) (s : State) :
    (engageSlot i owner line request s).mp = { s.mp with
      slots := s.mp.slots.set i (.busy owner line false (slotDeadlineFrom s)),
      sendOrder := s.mp.sendOrder ++ [request] } := rfl
@[simp] theorem putEntry_lat (i : Fin 32) (e : Entry) (s : State) :
    (putEntry i e s).lat = { s.lat with entries := s.lat.entries.set i (some e) } := rfl
@[simp] theorem answerFrame_mli (a : Answer) (removes : Bool) (s : State) :
    (answerFrame a removes s).mli = { s.mli with frame := .answering (answerOut a) removes } := rfl
@[simp] theorem answerFrame_out (a : Answer) (removes : Bool) (s : State) :
    (answerFrame a removes s).out = { s.out with answers := s.out.answers ++ [a] } := rfl
@[simp] theorem respond_out (r : Requester) (tag : Tag) (status : ResponseStatus) (data : List Byte) (s : State) :
    (respond r tag status data s).out = { s.out with
      responses := s.out.responses ++ [{ requester := r, tag := tag, status := status, data := data }] } := rfl
@[simp] theorem holdTag_rqp (r : Requester) (tag : Tag) (s : State) :
    (holdTag r tag s).rqp = { s.rqp with tags := s.rqp.tags ++ [(r, tag)] } := rfl
@[simp] theorem releaseTag_rqp (r : Requester) (tag : Tag) (s : State) :
    (releaseTag r tag s).rqp = { s.rqp with tags := s.rqp.tags.filter (fun p => p != (r, tag)) } := rfl

/-! ### setFrame -/

@[simp] theorem setFrame_rqp (f : Frame) (s : State) : (setFrame f s).rqp = s.rqp := rfl
@[simp] theorem setFrame_lat (f : Frame) (s : State) : (setFrame f s).lat = s.lat := rfl
@[simp] theorem setFrame_starvation (f : Frame) (s : State) : (setFrame f s).starvation = s.starvation := rfl
@[simp] theorem setFrame_rdp (f : Frame) (s : State) : (setFrame f s).rdp = s.rdp := rfl
@[simp] theorem setFrame_ord (f : Frame) (s : State) : (setFrame f s).ord = s.ord := rfl
@[simp] theorem setFrame_rsw (f : Frame) (s : State) : (setFrame f s).rsw = s.rsw := rfl
@[simp] theorem setFrame_mp (f : Frame) (s : State) : (setFrame f s).mp = s.mp := rfl
@[simp] theorem setFrame_mc (f : Frame) (s : State) : (setFrame f s).mc = s.mc := rfl
@[simp] theorem setFrame_nu (f : Frame) (s : State) : (setFrame f s).nu = s.nu := rfl
@[simp] theorem setFrame_held (f : Frame) (s : State) : (setFrame f s).held = s.held := rfl
@[simp] theorem setFrame_now (f : Frame) (s : State) : (setFrame f s).now = s.now := rfl
@[simp] theorem setFrame_out (f : Frame) (s : State) : (setFrame f s).out = s.out := rfl
@[simp] theorem setFrame_pending (f : Frame) (s : State) : (setFrame f s).pending = s.pending := rfl
@[simp] theorem setFrame_mli (f : Frame) (s : State) : (setFrame f s).mli = { s.mli with frame := f } := rfl

/-! ### endLong: what it writes -/

@[simp] theorem endLong_mc (c : LongCommand) (o : LongOutcome) (s : State) :
    (endLong c o s).mc = { s.mc with running := .none, last := some (c, o) } := rfl
@[simp] theorem endLong_nu (c : LongCommand) (o : LongOutcome) (s : State) :
    (endLong c o s).nu = postToNu (.commandDone c o) s.nu := rfl

end Sys2Proof.Machine
end

