-- ==== Sys2Proof/Laws/Table.lean ====
section
/-! SUPPORT. Reading and writing tables and sets. -/

namespace Sys2Proof

variable {α β : Type} {n : Nat}

@[simp] theorem Table.get_set_self (t : Table α n) (i : Fin n) (a : α) : (t.set i a).get i = a := by
  simp [Table.get, Table.set]

theorem Table.get_set_ne (t : Table α n) {i j : Fin n} (h : i ≠ j) (a : α) : (t.set i a).get j = t.get j := by
  have h' : i.val ≠ j.val := fun e => h (Fin.ext e)
  simp [Table.get, Table.set, h']

theorem Table.get_set (t : Table α n) (i j : Fin n) (a : α) : (t.set i a).get j = if i = j then a else t.get j := by
  by_cases h : i = j
  · subst h; simp
  · simp [h, Table.get_set_ne t h]

@[simp] theorem Table.get_ofFn (f : Fin n → α) (i : Fin n) : (Table.ofFn f).get i = f i := by
  simp [Table.get, Table.ofFn]

@[simp] theorem Table.get_fill (a : α) (i : Fin n) : (Table.fill n a).get i = a := by
  simp [Table.get, Table.fill]

@[simp] theorem Table.get_map (f : α → β) (t : Table α n) (i : Fin n) : (t.map f).get i = f (t.get i) := by
  simp [Table.get, Table.map]

/-- Tables with equal records are equal. -/
theorem Table.ext_get {t u : Table α n} (h : ∀ i, t.get i = u.get i) : t = u := by
  cases t with | mk a ha =>
  cases u with | mk b hb =>
  congr
  apply List.ext_getElem (by rw [ha, hb])
  intro k hk _
  exact h ⟨k, ha ▸ hk⟩

/-- A property of every cell is a property of every index. -/
theorem Table.all_iff (t : Table α n) (p : α → Bool) : t.cells.all p = true ↔ ∀ i, p (t.get i) = true := by
  rw [List.all_eq_true]
  constructor
  · intro h i; exact h _ (List.getElem_mem _)
  · intro h x hx
    obtain ⟨k, hk, rfl⟩ := List.mem_iff_getElem.1 hx
    exact h ⟨k, t.length_eq ▸ hk⟩

/-- A property of some cell is a property of some index. -/
theorem Table.any_iff (t : Table α n) (p : α → Bool) : t.cells.any p = true ↔ ∃ i, p (t.get i) = true := by
  rw [List.any_eq_true]
  constructor
  · rintro ⟨x, hx, h⟩
    obtain ⟨k, hk, rfl⟩ := List.mem_iff_getElem.1 hx
    exact ⟨⟨k, t.length_eq ▸ hk⟩, h⟩
  · rintro ⟨i, h⟩; exact ⟨_, List.getElem_mem _, h⟩

/-- What the lowest index found satisfies. -/
theorem Table.findLowest_some {t : Table α n} {p : α → Bool} {i : Fin n} (h : t.findLowest p = some i) :
    p (t.get i) = true := by
  have := List.find?_some h
  simpa using this

/-- Nothing found: no record satisfies the property. -/
theorem Table.findLowest_none {t : Table α n} {p : α → Bool} (h : t.findLowest p = none) (i : Fin n) :
    p (t.get i) = false := by
  have := List.find?_eq_none.1 h i (List.mem_finRange i)
  simpa using this

@[simp] theorem Table.mem_indices (t : Table α n) (p : α → Bool) (i : Fin n) :
    i ∈ t.indices p ↔ p (t.get i) = true := by
  simp [Table.indices]

theorem Table.indices_nodup (t : Table α n) (p : α → Bool) : (t.indices p).Nodup :=
  (List.nodup_finRange n).filter _

@[simp] theorem FinSet.has_of (p : Fin n → Bool) (i : Fin n) : (FinSet.of p).has i = p i := by
  simp [FinSet.has, FinSet.of]

@[simp] theorem FinSet.has_empty (i : Fin n) : (FinSet.empty n).has i = false := by
  simp [FinSet.has, FinSet.empty]

theorem FinSet.has_insert (s : FinSet n) (i j : Fin n) : (s.insert i).has j = (decide (i = j) || s.has j) := by
  by_cases h : i = j <;> simp [FinSet.has, FinSet.insert, Table.get_set, h]

theorem FinSet.has_erase (s : FinSet n) (i j : Fin n) : (s.erase i).has j = (!decide (i = j) && s.has j) := by
  by_cases h : i = j <;> simp [FinSet.has, FinSet.erase, Table.get_set, h]

@[simp] theorem FinSet.has_union (s t : FinSet n) (i : Fin n) : (s.union t).has i = (s.has i || t.has i) := by
  simp [FinSet.union]

/-- The empty set has no member. -/
theorem FinSet.isEmpty_iff (s : FinSet n) : s.isEmpty = true ↔ ∀ i, s.has i = false := by
  unfold FinSet.isEmpty
  rw [Table.all_iff]
  simp [FinSet.has]

end Sys2Proof
end

