-- ==== Sys2Proof/Laws/Ops.lean ====
section
/-! SUPPORT. The shared operations that branch: `X_only` says which blocks X can change, `X_frame` the same field by field, and the
`_cases` lemmas say once all that an operation can do. -/

namespace Sys2Proof.Machine

theorem completeFlush_only (s : State) :
    completeFlush s = { s with mc := (completeFlush s).mc, nu := (completeFlush s).nu } := by
  unfold completeFlush; split <;> (try split) <;> rfl

@[simp] theorem completeFlush_frame (s : State) :
    (completeFlush s).rqp = s.rqp ∧
    (completeFlush s).lat = s.lat ∧
    (completeFlush s).starvation = s.starvation ∧
    (completeFlush s).rdp = s.rdp ∧
    (completeFlush s).ord = s.ord ∧
    (completeFlush s).rsw = s.rsw ∧
    (completeFlush s).mp = s.mp ∧
    (completeFlush s).mli = s.mli ∧
    (completeFlush s).held = s.held ∧
    (completeFlush s).now = s.now ∧
    (completeFlush s).out = s.out ∧
    (completeFlush s).pending = s.pending := by
  rw [completeFlush_only]; simp

@[simp] theorem frameStart_frame (s : State) :
    (frameStart s).rqp = s.rqp ∧
    (frameStart s).lat = s.lat ∧
    (frameStart s).starvation = s.starvation ∧
    (frameStart s).rdp = s.rdp ∧
    (frameStart s).ord = s.ord ∧
    (frameStart s).rsw = s.rsw ∧
    (frameStart s).mp = s.mp ∧
    (frameStart s).mli = s.mli ∧
    (frameStart s).held = s.held ∧
    (frameStart s).now = s.now ∧
    (frameStart s).out = s.out ∧
    (frameStart s).pending = s.pending := completeFlush_frame s

theorem judgeStall_only (s : State) :
    judgeStall s = { s with mp := (judgeStall s).mp, nu := (judgeStall s).nu } := by
  unfold judgeStall; split <;> rfl

@[simp] theorem judgeStall_frame (s : State) :
    (judgeStall s).rqp = s.rqp ∧ (judgeStall s).lat = s.lat ∧ (judgeStall s).starvation = s.starvation ∧ (judgeStall s).rdp = s.rdp ∧ (judgeStall s).ord = s.ord ∧ (judgeStall s).rsw = s.rsw ∧ (judgeStall s).mc = s.mc ∧ (judgeStall s).mli = s.mli ∧ (judgeStall s).held = s.held ∧ (judgeStall s).now = s.now ∧ (judgeStall s).out = s.out ∧ (judgeStall s).pending = s.pending := by
  rw [judgeStall_only]; simp

theorem passLine_only (k : Fin 8) (s : State) :
    passLine k s = { s with rsw := (passLine k s).rsw, nu := (passLine k s).nu } := by
  unfold passLine; split <;> (try split) <;> rfl

@[simp] theorem passLine_frame (k : Fin 8) (s : State) :
    (passLine k s).rqp = s.rqp ∧ (passLine k s).lat = s.lat ∧ (passLine k s).starvation = s.starvation ∧ (passLine k s).rdp = s.rdp ∧ (passLine k s).ord = s.ord ∧ (passLine k s).mp = s.mp ∧ (passLine k s).mc = s.mc ∧ (passLine k s).mli = s.mli ∧ (passLine k s).held = s.held ∧ (passLine k s).now = s.now ∧ (passLine k s).out = s.out ∧ (passLine k s).pending = s.pending := by
  rw [passLine_only]; simp

theorem evaluateWith_only (fuel : Nat) (s : State) :
    evaluateWith fuel s = { s with rsw := (evaluateWith fuel s).rsw, nu := (evaluateWith fuel s).nu } := by
  induction fuel generalizing s with
  | zero =>
    unfold evaluateWith
    split
    · split
      · rfl
      · split
        · rfl
        · split <;> rfl
    · rfl
  | succ fuel ih =>
    unfold evaluateWith
    split
    · split
      · rfl
      · split
        · dsimp only; rw [ih, passLine_only]; rfl
        · split <;> rfl
    · rfl

@[simp] theorem evaluateWith_frame (fuel : Nat) (s : State) :
    (evaluateWith fuel s).rqp = s.rqp ∧ (evaluateWith fuel s).lat = s.lat ∧ (evaluateWith fuel s).starvation = s.starvation ∧ (evaluateWith fuel s).rdp = s.rdp ∧ (evaluateWith fuel s).ord = s.ord ∧ (evaluateWith fuel s).mp = s.mp ∧ (evaluateWith fuel s).mc = s.mc ∧ (evaluateWith fuel s).mli = s.mli ∧ (evaluateWith fuel s).held = s.held ∧ (evaluateWith fuel s).now = s.now ∧ (evaluateWith fuel s).out = s.out ∧ (evaluateWith fuel s).pending = s.pending := by
  rw [evaluateWith_only]; simp

theorem evaluate_only (s : State) :
    evaluate s = { s with rsw := (evaluate s).rsw, nu := (evaluate s).nu } := evaluateWith_only _ s

@[simp] theorem evaluate_frame (s : State) :
    (evaluate s).rqp = s.rqp ∧ (evaluate s).lat = s.lat ∧ (evaluate s).starvation = s.starvation ∧ (evaluate s).rdp = s.rdp ∧ (evaluate s).ord = s.ord ∧ (evaluate s).mp = s.mp ∧ (evaluate s).mc = s.mc ∧ (evaluate s).mli = s.mli ∧ (evaluate s).held = s.held ∧ (evaluate s).now = s.now ∧ (evaluate s).out = s.out ∧ (evaluate s).pending = s.pending := by
  rw [evaluate_only]; simp

theorem judgeUrgency_only (s : State) :
    judgeUrgency s = { s with rsw := (judgeUrgency s).rsw, nu := (judgeUrgency s).nu } := by
  unfold judgeUrgency; split <;> (try split) <;> first | rfl | exact evaluate_only s

@[simp] theorem judgeUrgency_frame (s : State) :
    (judgeUrgency s).rqp = s.rqp ∧ (judgeUrgency s).lat = s.lat ∧ (judgeUrgency s).starvation = s.starvation ∧ (judgeUrgency s).rdp = s.rdp ∧ (judgeUrgency s).ord = s.ord ∧ (judgeUrgency s).mp = s.mp ∧ (judgeUrgency s).mc = s.mc ∧ (judgeUrgency s).mli = s.mli ∧ (judgeUrgency s).held = s.held ∧ (judgeUrgency s).now = s.now ∧ (judgeUrgency s).out = s.out ∧ (judgeUrgency s).pending = s.pending := by
  rw [judgeUrgency_only]; simp

theorem settleSweep_only (s : State) :
    settleSweep s = { s with starvation := (settleSweep s).starvation, rsw := (settleSweep s).rsw, nu := (settleSweep s).nu } := by
  have h := judgeUrgency_only (judgeStarvation s)
  unfold settleSweep judgeStarvation at *
  rw [h]

@[simp] theorem settleSweep_frame (s : State) :
    (settleSweep s).rqp = s.rqp ∧ (settleSweep s).lat = s.lat ∧ (settleSweep s).rdp = s.rdp ∧ (settleSweep s).ord = s.ord ∧ (settleSweep s).mp = s.mp ∧ (settleSweep s).mc = s.mc ∧ (settleSweep s).mli = s.mli ∧ (settleSweep s).held = s.held ∧ (settleSweep s).now = s.now ∧ (settleSweep s).out = s.out ∧ (settleSweep s).pending = s.pending := by
  rw [settleSweep_only]; simp

theorem claimEnded_only (line : Nat) (s : State) :
    claimEnded line s = { s with rsw := (claimEnded line s).rsw, nu := (claimEnded line s).nu } := by
  unfold claimEnded; split <;> (try split) <;> first | rfl | exact evaluate_only s

@[simp] theorem claimEnded_frame (line : Nat) (s : State) :
    (claimEnded line s).rqp = s.rqp ∧ (claimEnded line s).lat = s.lat ∧ (claimEnded line s).starvation = s.starvation ∧ (claimEnded line s).rdp = s.rdp ∧ (claimEnded line s).ord = s.ord ∧ (claimEnded line s).mp = s.mp ∧ (claimEnded line s).mc = s.mc ∧ (claimEnded line s).mli = s.mli ∧ (claimEnded line s).held = s.held ∧ (claimEnded line s).now = s.now ∧ (claimEnded line s).out = s.out ∧ (claimEnded line s).pending = s.pending := by
  rw [claimEnded_only]; simp

theorem claimBegan_only (line : Nat) (s : State) :
    claimBegan line s = { s with rsw := (claimBegan line s).rsw } := by
  unfold claimBegan; split <;> (try split) <;> rfl

@[simp] theorem claimBegan_frame (line : Nat) (s : State) :
    (claimBegan line s).rqp = s.rqp ∧ (claimBegan line s).lat = s.lat ∧ (claimBegan line s).starvation = s.starvation ∧ (claimBegan line s).rdp = s.rdp ∧ (claimBegan line s).ord = s.ord ∧ (claimBegan line s).mp = s.mp ∧ (claimBegan line s).mc = s.mc ∧ (claimBegan line s).nu = s.nu ∧ (claimBegan line s).mli = s.mli ∧ (claimBegan line s).held = s.held ∧ (claimBegan line s).now = s.now ∧ (claimBegan line s).out = s.out ∧ (claimBegan line s).pending = s.pending := by
  rw [claimBegan_only]; simp

theorem sweepFault_only (k : Fin 8) (line : Nat) (cause : FaultCause) (s : State) :
    sweepFault k line cause s = { s with rsw := (sweepFault k line cause s).rsw, nu := (sweepFault k line cause s).nu } := by
  unfold sweepFault; split <;> rfl

@[simp] theorem sweepFault_frame (k : Fin 8) (line : Nat) (cause : FaultCause) (s : State) :
    (sweepFault k line cause s).rqp = s.rqp ∧ (sweepFault k line cause s).lat = s.lat ∧ (sweepFault k line cause s).starvation = s.starvation ∧ (sweepFault k line cause s).rdp = s.rdp ∧ (sweepFault k line cause s).ord = s.ord ∧ (sweepFault k line cause s).mp = s.mp ∧ (sweepFault k line cause s).mc = s.mc ∧ (sweepFault k line cause s).mli = s.mli ∧ (sweepFault k line cause s).held = s.held ∧ (sweepFault k line cause s).now = s.now ∧ (sweepFault k line cause s).out = s.out ∧ (sweepFault k line cause s).pending = s.pending := by
  rw [sweepFault_only]; simp

theorem sweepGoOn_only (s : State) :
    sweepGoOn s = { s with rsw := (sweepGoOn s).rsw, nu := (sweepGoOn s).nu } := by
  unfold sweepGoOn; split <;> (try split) <;> first | rfl | exact evaluate_only s

@[simp] theorem sweepGoOn_frame (s : State) :
    (sweepGoOn s).rqp = s.rqp ∧ (sweepGoOn s).lat = s.lat ∧ (sweepGoOn s).starvation = s.starvation ∧ (sweepGoOn s).rdp = s.rdp ∧ (sweepGoOn s).ord = s.ord ∧ (sweepGoOn s).mp = s.mp ∧ (sweepGoOn s).mc = s.mc ∧ (sweepGoOn s).mli = s.mli ∧ (sweepGoOn s).held = s.held ∧ (sweepGoOn s).now = s.now ∧ (sweepGoOn s).out = s.out ∧ (sweepGoOn s).pending = s.pending := by
  rw [sweepGoOn_only]; simp

theorem sweepWriteEnd_only (fault : Option FaultCause) (s : State) :
    sweepWriteEnd fault s = { s with starvation := (sweepWriteEnd fault s).starvation, rsw := (sweepWriteEnd fault s).rsw, nu := (sweepWriteEnd fault s).nu } := by
  unfold sweepWriteEnd
  split
  · dsimp only
    rw [sweepGoOn_only, judgeStarvation, passLine_only]
    split
    · rw [sweepFault_only]
    · rfl
  all_goals rfl

@[simp] theorem sweepWriteEnd_frame (fault : Option FaultCause) (s : State) :
    (sweepWriteEnd fault s).rqp = s.rqp ∧ (sweepWriteEnd fault s).lat = s.lat ∧ (sweepWriteEnd fault s).rdp = s.rdp ∧ (sweepWriteEnd fault s).ord = s.ord ∧ (sweepWriteEnd fault s).mp = s.mp ∧ (sweepWriteEnd fault s).mc = s.mc ∧ (sweepWriteEnd fault s).mli = s.mli ∧ (sweepWriteEnd fault s).held = s.held ∧ (sweepWriteEnd fault s).now = s.now ∧ (sweepWriteEnd fault s).out = s.out ∧ (sweepWriteEnd fault s).pending = s.pending := by
  rw [sweepWriteEnd_only]; simp

theorem testDrain_only (s : State) :
    testDrain s = { s with mc := (testDrain s).mc, nu := (testDrain s).nu } := by
  unfold testDrain; split <;> rfl

@[simp] theorem testDrain_frame (s : State) :
    (testDrain s).rqp = s.rqp ∧ (testDrain s).lat = s.lat ∧ (testDrain s).starvation = s.starvation ∧ (testDrain s).rdp = s.rdp ∧ (testDrain s).ord = s.ord ∧ (testDrain s).rsw = s.rsw ∧ (testDrain s).mp = s.mp ∧ (testDrain s).mli = s.mli ∧ (testDrain s).held = s.held ∧ (testDrain s).now = s.now ∧ (testDrain s).out = s.out ∧ (testDrain s).pending = s.pending := by
  rw [testDrain_only]; simp

theorem postEnd_only (e : Entry) (kind : EndKind) (s : State) :
    postEnd e kind s = { s with nu := (postEnd e kind s).nu } := by
  unfold postEnd; split <;> rfl

@[simp] theorem postEnd_frame (e : Entry) (kind : EndKind) (s : State) :
    (postEnd e kind s).rqp = s.rqp ∧ (postEnd e kind s).lat = s.lat ∧ (postEnd e kind s).starvation = s.starvation ∧ (postEnd e kind s).rdp = s.rdp ∧ (postEnd e kind s).ord = s.ord ∧ (postEnd e kind s).rsw = s.rsw ∧ (postEnd e kind s).mp = s.mp ∧ (postEnd e kind s).mc = s.mc ∧ (postEnd e kind s).mli = s.mli ∧ (postEnd e kind s).held = s.held ∧ (postEnd e kind s).now = s.now ∧ (postEnd e kind s).out = s.out ∧ (postEnd e kind s).pending = s.pending := by
  rw [postEnd_only]; simp

theorem countDown_only (status : HeldStatus) (w : Fin 16) (s : State) :
    countDown status w s = { s with rqp := (countDown status w s).rqp, out := (countDown status w s).out } := by
  unfold countDown; split
  · dsimp only; split <;> rfl
  · rfl

@[simp] theorem countDown_frame (status : HeldStatus) (w : Fin 16) (s : State) :
    (countDown status w s).lat = s.lat ∧ (countDown status w s).starvation = s.starvation ∧ (countDown status w s).rdp = s.rdp ∧ (countDown status w s).ord = s.ord ∧ (countDown status w s).rsw = s.rsw ∧ (countDown status w s).mp = s.mp ∧ (countDown status w s).mc = s.mc ∧ (countDown status w s).nu = s.nu ∧ (countDown status w s).mli = s.mli ∧ (countDown status w s).held = s.held ∧ (countDown status w s).now = s.now ∧ (countDown status w s).pending = s.pending := by
  rw [countDown_only]; simp

theorem countDownHeld_only (status : HeldStatus) (held : List (Fin 16)) (s : State) :
    countDownHeld status held s = { s with rqp := (countDownHeld status held s).rqp, out := (countDownHeld status held s).out } := by
  induction held generalizing s with
  | nil => rfl
  | cons w rest ih =>
    have h := ih (countDown status w s)
    simp only [countDown_frame] at h
    exact h

@[simp] theorem countDownHeld_frame (status : HeldStatus) (held : List (Fin 16)) (s : State) :
    (countDownHeld status held s).lat = s.lat ∧ (countDownHeld status held s).starvation = s.starvation ∧ (countDownHeld status held s).rdp = s.rdp ∧ (countDownHeld status held s).ord = s.ord ∧ (countDownHeld status held s).rsw = s.rsw ∧ (countDownHeld status held s).mp = s.mp ∧ (countDownHeld status held s).mc = s.mc ∧ (countDownHeld status held s).nu = s.nu ∧ (countDownHeld status held s).mli = s.mli ∧ (countDownHeld status held s).held = s.held ∧ (countDownHeld status held s).now = s.now ∧ (countDownHeld status held s).pending = s.pending := by
  rw [countDownHeld_only]; simp

theorem countFill_only (e : Entry) (kind : EndKind) (s : State) :
    countFill e kind s = { s with nu := (countFill e kind s).nu } := by
  unfold countFill; split <;> rfl

@[simp] theorem countFill_frame (e : Entry) (kind : EndKind) (s : State) :
    (countFill e kind s).rqp = s.rqp ∧ (countFill e kind s).lat = s.lat ∧ (countFill e kind s).starvation = s.starvation ∧ (countFill e kind s).rdp = s.rdp ∧ (countFill e kind s).ord = s.ord ∧ (countFill e kind s).rsw = s.rsw ∧ (countFill e kind s).mp = s.mp ∧ (countFill e kind s).mc = s.mc ∧ (countFill e kind s).mli = s.mli ∧ (countFill e kind s).held = s.held ∧ (countFill e kind s).now = s.now ∧ (countFill e kind s).out = s.out ∧ (countFill e kind s).pending = s.pending := by
  rw [countFill_only]; simp

theorem endEntry_only (i : Fin 32) (kind : EndKind) (s : State) :
    endEntry i kind s = { s with rqp := (endEntry i kind s).rqp, lat := (endEntry i kind s).lat, ord := (endEntry i kind s).ord, mc := (endEntry i kind s).mc, nu := (endEntry i kind s).nu, out := (endEntry i kind s).out } := by
  unfold endEntry
  split
  · unfold completionEffects
    dsimp only
    rw [countFill_only, countDownHeld_only]
    split
    · rw [postEnd_only]; rfl
    · rw [postEnd_only]; rfl
  · rfl

@[simp] theorem endEntry_frame (i : Fin 32) (kind : EndKind) (s : State) :
    (endEntry i kind s).starvation = s.starvation ∧ (endEntry i kind s).rdp = s.rdp ∧ (endEntry i kind s).rsw = s.rsw ∧ (endEntry i kind s).mp = s.mp ∧ (endEntry i kind s).mli = s.mli ∧ (endEntry i kind s).held = s.held ∧ (endEntry i kind s).now = s.now ∧ (endEntry i kind s).pending = s.pending := by
  rw [endEntry_only]; simp

theorem finishPiece_only (c : Fin 16) (i : Nat) (status : ReadStatus) (bytes : List Byte) (s : State) :
    finishPiece c i status bytes s = { s with rdp := (finishPiece c i status bytes s).rdp } := by
  unfold finishPiece; split <;> rfl

@[simp] theorem finishPiece_frame (c : Fin 16) (i : Nat) (status : ReadStatus) (bytes : List Byte) (s : State) :
    (finishPiece c i status bytes s).rqp = s.rqp ∧ (finishPiece c i status bytes s).lat = s.lat ∧ (finishPiece c i status bytes s).starvation = s.starvation ∧ (finishPiece c i status bytes s).ord = s.ord ∧ (finishPiece c i status bytes s).rsw = s.rsw ∧ (finishPiece c i status bytes s).mp = s.mp ∧ (finishPiece c i status bytes s).mc = s.mc ∧ (finishPiece c i status bytes s).nu = s.nu ∧ (finishPiece c i status bytes s).mli = s.mli ∧ (finishPiece c i status bytes s).held = s.held ∧ (finishPiece c i status bytes s).now = s.now ∧ (finishPiece c i status bytes s).out = s.out ∧ (finishPiece c i status bytes s).pending = s.pending := by
  rw [finishPiece_only]; simp

theorem setPieceState_only (c : Fin 16) (i : Nat) (state : PieceState) (s : State) :
    setPieceState c i state s = { s with rdp := (setPieceState c i state s).rdp } := by
  unfold setPieceState; split <;> rfl

@[simp] theorem setPieceState_frame (c : Fin 16) (i : Nat) (state : PieceState) (s : State) :
    (setPieceState c i state s).rqp = s.rqp ∧ (setPieceState c i state s).lat = s.lat ∧ (setPieceState c i state s).starvation = s.starvation ∧ (setPieceState c i state s).ord = s.ord ∧ (setPieceState c i state s).rsw = s.rsw ∧ (setPieceState c i state s).mp = s.mp ∧ (setPieceState c i state s).mc = s.mc ∧ (setPieceState c i state s).nu = s.nu ∧ (setPieceState c i state s).mli = s.mli ∧ (setPieceState c i state s).held = s.held ∧ (setPieceState c i state s).now = s.now ∧ (setPieceState c i state s).out = s.out ∧ (setPieceState c i state s).pending = s.pending := by
  rw [setPieceState_only]; simp

theorem failPiece_only (c : Fin 16) (i : Nat) (status : ReadStatus) (cause : FaultCause) (s : State) :
    failPiece c i status cause s = { s with rdp := (failPiece c i status cause s).rdp, nu := (failPiece c i status cause s).nu } := by
  unfold failPiece
  split
  · split
    · dsimp only
      split
      · rw [finishPiece_only]
      · rw [finishPiece_only]; rfl
    · rfl
  · rfl

@[simp] theorem failPiece_frame (c : Fin 16) (i : Nat) (status : ReadStatus) (cause : FaultCause) (s : State) :
    (failPiece c i status cause s).rqp = s.rqp ∧ (failPiece c i status cause s).lat = s.lat ∧ (failPiece c i status cause s).starvation = s.starvation ∧ (failPiece c i status cause s).ord = s.ord ∧ (failPiece c i status cause s).rsw = s.rsw ∧ (failPiece c i status cause s).mp = s.mp ∧ (failPiece c i status cause s).mc = s.mc ∧ (failPiece c i status cause s).mli = s.mli ∧ (failPiece c i status cause s).held = s.held ∧ (failPiece c i status cause s).now = s.now ∧ (failPiece c i status cause s).out = s.out ∧ (failPiece c i status cause s).pending = s.pending := by
  rw [failPiece_only]; simp

theorem returnPiece_only (c : Fin 16) (i : Nat) (line : Table Byte 64) (s : State) :
    returnPiece c i line s = { s with rdp := (returnPiece c i line s).rdp } := by
  unfold returnPiece
  split
  · split
    · rw [finishPiece_only]
    · rfl
  · rfl

@[simp] theorem returnPiece_frame (c : Fin 16) (i : Nat) (line : Table Byte 64) (s : State) :
    (returnPiece c i line s).rqp = s.rqp ∧ (returnPiece c i line s).lat = s.lat ∧ (returnPiece c i line s).starvation = s.starvation ∧ (returnPiece c i line s).ord = s.ord ∧ (returnPiece c i line s).rsw = s.rsw ∧ (returnPiece c i line s).mp = s.mp ∧ (returnPiece c i line s).mc = s.mc ∧ (returnPiece c i line s).nu = s.nu ∧ (returnPiece c i line s).mli = s.mli ∧ (returnPiece c i line s).held = s.held ∧ (returnPiece c i line s).now = s.now ∧ (returnPiece c i line s).out = s.out ∧ (returnPiece c i line s).pending = s.pending := by
  rw [returnPiece_only]; simp

theorem evictFor_only (q : Request) (s : State) :
    evictFor q s = { s with lat := (evictFor q s).lat } := by
  unfold evictFor; split <;> (try split) <;> rfl

@[simp] theorem evictFor_frame (q : Request) (s : State) :
    (evictFor q s).rqp = s.rqp ∧ (evictFor q s).starvation = s.starvation ∧ (evictFor q s).rdp = s.rdp ∧ (evictFor q s).ord = s.ord ∧ (evictFor q s).rsw = s.rsw ∧ (evictFor q s).mp = s.mp ∧ (evictFor q s).mc = s.mc ∧ (evictFor q s).nu = s.nu ∧ (evictFor q s).mli = s.mli ∧ (evictFor q s).held = s.held ∧ (evictFor q s).now = s.now ∧ (evictFor q s).out = s.out ∧ (evictFor q s).pending = s.pending := by
  rw [evictFor_only]; simp

theorem resourceCloses_only (q : Request) (s : State) :
    resourceCloses q s = { s with lat := (resourceCloses q s).lat } := by
  unfold resourceCloses
  rw [evictFor_only]

@[simp] theorem resourceCloses_frame (q : Request) (s : State) :
    (resourceCloses q s).rqp = s.rqp ∧ (resourceCloses q s).starvation = s.starvation ∧ (resourceCloses q s).rdp = s.rdp ∧ (resourceCloses q s).ord = s.ord ∧ (resourceCloses q s).rsw = s.rsw ∧ (resourceCloses q s).mp = s.mp ∧ (resourceCloses q s).mc = s.mc ∧ (resourceCloses q s).nu = s.nu ∧ (resourceCloses q s).mli = s.mli ∧ (resourceCloses q s).held = s.held ∧ (resourceCloses q s).now = s.now ∧ (resourceCloses q s).out = s.out ∧ (resourceCloses q s).pending = s.pending := by
  rw [resourceCloses_only]; simp

theorem judgeHead_only (s : State) :
    judgeHead s = { s with lat := (judgeHead s).lat } := by
  unfold judgeHead
  split
  · rfl
  · split
    · exact resourceCloses_only _ s
    · rfl

@[simp] theorem judgeHead_frame (s : State) :
    (judgeHead s).rqp = s.rqp ∧ (judgeHead s).starvation = s.starvation ∧ (judgeHead s).rdp = s.rdp ∧ (judgeHead s).ord = s.ord ∧ (judgeHead s).rsw = s.rsw ∧ (judgeHead s).mp = s.mp ∧ (judgeHead s).mc = s.mc ∧ (judgeHead s).nu = s.nu ∧ (judgeHead s).mli = s.mli ∧ (judgeHead s).held = s.held ∧ (judgeHead s).now = s.now ∧ (judgeHead s).out = s.out ∧ (judgeHead s).pending = s.pending := by
  rw [judgeHead_only]; simp

end Sys2Proof.Machine
end

