-- ==== Sys2Proof/Laws/Cases.lean ====
section
/-! SUPPORT. What the branching operations can do, said once: each lemma lists every outcome with its condition. -/

namespace Sys2Proof.Machine

/-! ## Steps and the held reset -/

theorem whenRunning_released {s : State} (h : s.held = false) (act : State → State) :
    whenRunning s act = .next (act s) := by simp [whenRunning, h]

theorem whenRunning_held {s : State} (h : s.held = true) (act : State → State) : whenRunning s act = .next s := by
  simp [whenRunning, h]

/-- The next state of a guarded act: the act's, or the same state while the reset is held. -/
theorem whenRunning_next {s t : State} {act : State → State} (h : whenRunning s act = .next t) :
    (s.held = false ∧ t = act s) ∨ (s.held = true ∧ t = s) := by
  unfold whenRunning at h
  split at h
  · rename_i hh; exact .inr ⟨hh, by cases h; rfl⟩
  · rename_i hh; exact .inl ⟨by simpa using hh, by cases h; rfl⟩

/-- What a management frame finds: an ended FLUSH, or the state as it is (R68, R174). -/
theorem frameStart_cases (s : State) :
    (∃ waitSet losses, s.mc.running = .flush waitSet losses ∧ waitSet.isEmpty = true ∧
      frameStart s = endLong .flush (if losses then .losses else .clean) s) ∨
    ((∀ waitSet losses, s.mc.running = .flush waitSet losses → waitSet.isEmpty = false) ∧ frameStart s = s) := by
  unfold frameStart completeFlush
  split
  · rename_i w l h
    split
    · rename_i hw; exact .inl ⟨w, l, h, hw, rfl⟩
    · rename_i hw
      refine .inr ⟨fun w' l' h' => ?_, rfl⟩
      rw [h] at h'; cases h'; simpa using hw
  · rename_i h; exact .inr ⟨fun _ _ h' => (by rw [h] at h'; cases h'), rfl⟩
  · rename_i h; exact .inr ⟨fun _ _ h' => (by rw [h] at h'; cases h'), rfl⟩

theorem frameStart_mode (s : State) : (frameStart s).mc.mode = s.mc.mode := by
  rcases frameStart_cases s with ⟨_, _, _, _, h⟩ | ⟨_, h⟩ <;> (rw [h]; try rfl)

theorem onFrame_heard {s₀ s : State} (h : FrameFinds s₀ s) (act : State → State) : onFrame s₀ act = .next (act s) := by
  obtain ⟨hi, rfl⟩ := h
  simp [onFrame, hi]

/-- The next state of a management frame: its act's on what the frame finds, or, for an ignored frame, a fresh frame
receiver. -/
theorem onFrame_next {s t : State} {act : State → State} (h : onFrame s act = .next t) :
    (FrameFinds s (frameStart s) ∧ t = act (frameStart s)) ∨
    (ignoresFrame s = true ∧ t = setFrame (if s.mli.frame = .ignoring then .waiting else s.mli.frame) s) := by
  unfold onFrame at h
  split at h
  · rename_i hi
    refine .inr ⟨hi, ?_⟩
    split at h
    · rename_i hf; cases h; simp [hf]
    · rename_i hf; cases h; simp [hf, setFrame]
  · rename_i hi
    exact .inl ⟨⟨by simpa using hi, rfl⟩, by cases h; rfl⟩

theorem step_cons {s : State} {c : Instr} {rest : List Instr} (h : s.pending = c :: rest) :
    step s = exec c { s with pending := rest } := by simp [step, h]

theorem step_nil {s : State} (h : s.pending = []) : step s = .next { s with now := s.now + 1 } := by simp [step, h]

/-! ## Closing -/

theorem closeIn_cases (cause : CloseCause) (i : Fin 32) (l : Lat) :
    closeIn cause i l = l ∨ ∃ e, l.entries.get i = some e ∧ e.state = .gathering ∧
      closeIn cause i l =
        { entries := l.entries.set i
            (some { e with state := .closed, closeNumber := some (newCloseNumber l), deadline := none }),
          issueQueue := l.issueQueue ++ [i],
          evictMark := if cause = .evict then some i else l.evictMark } := by
  unfold closeIn
  split
  · rename_i e he
    split
    · rename_i hg
      exact .inr ⟨e, he, by simpa [isGathering] using hg, rfl⟩
    · exact .inl rfl
  · exact .inl rfl

/-! ## The sweep -/

theorem passLine_cases (k : Fin 8) (s : State) :
    passLine k s = s ∨
    (∃ info w, s.rsw.regions.get k = .sweeping info w ∧ w + Config.lineBytes = info.base + info.size ∧
      passLine k s = post (.sweepDone k info.faults)
        { s with rsw := { s.rsw with regions := s.rsw.regions.set k (.ready info) } }) ∨
    (∃ info w, s.rsw.regions.get k = .sweeping info w ∧ w + Config.lineBytes ≠ info.base + info.size ∧
      passLine k s =
        { s with rsw := { s.rsw with regions := s.rsw.regions.set k (.sweeping info (w + Config.lineBytes)) } }) := by
  unfold passLine
  split
  · rename_i info w h
    split
    · rename_i hw; exact .inr (.inl ⟨info, w, h, hw, rfl⟩)
    · rename_i hw; exact .inr (.inr ⟨info, w, h, hw, rfl⟩)
  · exact .inl rfl
  · exact .inl rfl

/-- What an evaluation leaves the engine in (R103, R104). -/
theorem evaluateWith_engine (fuel : Nat) (s : State) :
    (evaluateWith fuel s).rsw.engine = .idle ∨
    (∃ k line, (evaluateWith fuel s).rsw.engine = .blocked k line ∧ claimed s.mp line = true) ∨
    (∃ k line, (evaluateWith fuel s).rsw.engine = .ready k line ∧ claimed s.mp line = false) := by
  induction fuel generalizing s with
  | zero =>
    unfold evaluateWith
    split
    · split
      · exact .inl rfl
      · rename_i k line _
        split
        · exact .inl rfl
        · split
          · rename_i h; exact .inr (.inl ⟨k, line, rfl, h⟩)
          · rename_i h; exact .inr (.inr ⟨k, line, rfl, by simpa using h⟩)
    · exact .inl rfl
  | succ fuel ih =>
    unfold evaluateWith
    split
    · split
      · exact .inl rfl
      · rename_i k line _
        split
        · have h := ih (passLine k (dropAhead line s))
          simp only [passLine_frame, dropAhead_mp] at h
          exact h
        · split
          · rename_i h; exact .inr (.inl ⟨k, line, rfl, h⟩)
          · rename_i h; exact .inr (.inr ⟨k, line, rfl, by simpa using h⟩)
    · exact .inl rfl

/-- Outside ONLINE an evaluation leaves the engine IDLE (R103). -/
theorem evaluate_not_online {s : State} (h : s.mc.mode ≠ .online) : evaluate s = setEngine .idle s := by
  unfold evaluate
  cases s.rsw.ahead.length <;> simp [evaluateWith, h]

/-- The target of an evaluation is the watermark of a SWEEPING region (R103). -/
theorem sweepTarget_sweeping {s : State} {k : Fin 8} {line : Nat} (h : sweepTarget s = some (k, line)) :
    ∃ info, s.rsw.regions.get k = .sweeping info line := by
  unfold sweepTarget at h
  split at h
  · split at h
    · rename_i info w hr; cases h; exact ⟨info, hr⟩
    · cases h
    · cases h
  · cases h

/-- A WRITTEN record passed leaves a shorter Ahead List. -/
theorem dropAhead_shorter {s : State} {line : Nat} (h : writtenAhead s.rsw line = true) :
    (dropAhead line s).rsw.ahead.length < s.rsw.ahead.length := by
  unfold writtenAhead at h
  obtain ⟨r, hr, hl⟩ := List.any_eq_true.mp h
  simp only [dropAhead]
  refine Nat.lt_of_le_of_ne (List.length_filter_le _ _) (fun he => ?_)
  have := List.length_filter_eq_length_iff.mp he r hr
  simp_all

theorem passLine_dropAhead {s : State} {k : Fin 8} {line : Nat} {info : RegionInfo}
    (h : s.rsw.regions.get k = .sweeping info line) :
    passLine k (dropAhead line s) = withLinePassed k line info s := by
  have h' : (dropAhead line s).rsw.regions.get k = .sweeping info line := h
  unfold passLine
  rw [h']
  unfold withLinePassed
  by_cases he : line + Config.lineBytes = info.base + info.size
  · have he' : line + 64 = info.base + info.size := he
    simp only [he, he', if_true]; rfl
  · have he' : ¬ line + 64 = info.base + info.size := he
    simp only [he, he', if_false]; rfl

/-- All that an evaluation can do is what the rules list (R103, R104). -/
theorem evaluate_evaluates (s : State) : Evaluates s (evaluate s) := by
  suffices h : ∀ fuel s, s.rsw.ahead.length ≤ fuel → Evaluates s (evaluateWith fuel s) from h _ s (Nat.le_refl _)
  intro fuel
  induction fuel with
  | zero =>
    intro s hs
    have hw : ∀ line, writtenAhead s.rsw line = false := by
      intro line; simp [writtenAhead, List.length_eq_zero_iff.mp (Nat.le_zero.mp hs)]
    unfold evaluateWith
    split
    · rename_i hm
      split
      · rename_i ht; exact .rests s (.inr ht)
      · rename_i k line ht
        have h := Evaluates.stops s k line hm ht (hw line)
        rw [hw line]
        cases hc : claimed s.mp line <;> simpa [setEngine, hc] using h
    · rename_i hm; exact .rests s (.inl hm)
  | succ fuel ih =>
    intro s hs
    unfold evaluateWith
    split
    · rename_i hm
      split
      · rename_i ht; exact .rests s (.inr ht)
      · rename_i k line ht
        obtain ⟨info, hi⟩ := sweepTarget_sweeping ht
        cases hw : writtenAhead s.rsw line
        · have h := Evaluates.stops s k line hm ht hw
          cases hc : claimed s.mp line <;> simpa [setEngine, hc] using h
        · have hl : (withLinePassed k line info s).rsw.ahead.length < s.rsw.ahead.length := dropAhead_shorter hw
          simp only [if_true, passLine_dropAhead hi]
          exact .passes s _ k line info hm ht hi hw (ih _ (by omega))
    · rename_i hm; exact .rests s (.inl hm)

/-! ## The drain, the head and the link -/

theorem testDrain_cases (s : State) :
    testDrain s = s ∨ (s.mc.mode = .draining ∧ drained s = true ∧
      testDrain s = endLong .quiesce .done { s with mc := { s.mc with mode := .quiesced } }) := by
  unfold testDrain
  split
  · rename_i h
    have h : s.mc.mode = .draining ∧ drained s = true := by simpa using h
    exact .inr ⟨h.1, h.2, rfl⟩
  · exact .inl rfl

theorem judgeHead_cases (s : State) :
    judgeHead s = s ∨ ∃ q rest, s.rqp.intake = q :: rest ∧ judge s q = .passes ∧ q.kind = .write ∧
      judgeHead s = resourceCloses q s := by
  unfold judgeHead
  split
  · exact .inl rfl
  · rename_i q rest h
    split
    · rename_i hq; exact .inr ⟨q, rest, h, hq.1, hq.2, rfl⟩
    · exact .inl rfl

/-- Requests pass from the link to the Intake Queue in order, and none is lost (R135). -/
theorem acceptFromLink_stream (s : State) :
    (acceptFromLink s).rqp.intake ++ (acceptFromLink s).rqp.link = s.rqp.intake ++ s.rqp.link := by
  simp [acceptFromLink]

theorem judgeStall_cases (s : State) :
    judgeStall s = s ∨ (s.mp.stallMark = false ∧ s.mp.slots.cells.all slotOrphaned = true ∧
      judgeStall s = post .memoryStalled { s with mp := { s.mp with stallMark := true } }) := by
  unfold judgeStall
  split
  · rename_i h
    have h : s.mp.slots.cells.all slotOrphaned = true ∧ s.mp.stallMark = false := by
      rw [Bool.and_eq_true] at h; simpa using h
    exact .inr ⟨h.2, h.1, rfl⟩
  · exact .inl rfl

/-! ## Notices -/

/-- A post takes the sequence number whether its record is queued or dropped (R159). -/
@[simp] theorem postToNu_seq (body : NoticeBody) (u : Nu) : (postToNu body u).seq = u.seq + 1#16 := by
  unfold postToNu; split <;> rfl

@[simp] theorem postToNu_enables (body : NoticeBody) (u : Nu) : (postToNu body u).enables = u.enables := by
  unfold postToNu; split <;> rfl

/-- The queue after a post: one record more at the tail, or the same (R160). -/
theorem postToNu_queue (body : NoticeBody) (u : Nu) :
    (u.queue.length < Config.noticeCapacity ∧
      (postToNu body u).queue = u.queue ++ [{ seq := u.seq, body := body }]) ∨
    (Config.noticeCapacity ≤ u.queue.length ∧ (postToNu body u).queue = u.queue) := by
  unfold postToNu
  split
  · rename_i h; exact .inl ⟨h, rfl⟩
  · rename_i h; exact .inr ⟨Nat.le_of_not_lt h, rfl⟩

end Sys2Proof.Machine
end

