-- ==== Sys2Proof/Laws/Formats.lean ====
section
/-! SUPPORT. Bytes most significant first: lengths, and the number that the bytes of a field carry (R178). -/

namespace Sys2Proof

@[simp] theorem length_bigEndian (k v : Nat) : (bigEndian k v).length = k := by
  induction k with
  | zero => rfl
  | succ k ih => simp [bigEndian, ih]

/-- The number that bytes carry behind a number already read. -/
theorem foldl_ofBigEndian (bytes : List Byte) (acc : Nat) :
    bytes.foldl (fun acc b => 256 * acc + b.toNat) acc = acc * 256 ^ bytes.length + ofBigEndian bytes := by
  induction bytes generalizing acc with
  | nil => simp [ofBigEndian]
  | cons b rest ih =>
    rw [ofBigEndian, List.foldl_cons, List.foldl_cons, ih, ih (256 * 0 + b.toNat), List.length_cons, pow_succ]
    ring

/-- A field of `k` bytes carries the low `k` bytes of its value. -/
@[simp] theorem ofBigEndian_bigEndian (k v : Nat) : ofBigEndian (bigEndian k v) = v % 256 ^ k := by
  induction k with
  | zero => simp [bigEndian, ofBigEndian, Nat.mod_one]
  | succ k ih =>
    rw [bigEndian, ofBigEndian, List.foldl_cons, foldl_ofBigEndian, ih, length_bigEndian, pow_succ, Nat.mod_mul]
    simp only [BitVec.toNat_ofNat]
    norm_num
    ring

namespace Machine

@[simp] theorem length_padTo (n : Nat) (bytes : List Byte) : (padTo n bytes).length = n := by simp [padTo]

/-- A notice record is 19 bytes, whatever its kind (R179). -/
@[simp] theorem length_noticeBytes (n : Notice) : (noticeBytes n).length = 19 := by simp [noticeBytes, oneByte]

/-- The field that stands first carries the low bytes of its value. -/
@[simp] theorem fieldAt_first (k v : Nat) (rest : List Byte) : fieldAt (bigEndian k v ++ rest) 0 k = v % 256 ^ k := by
  have h : (bigEndian k v ++ rest).take k = bigEndian k v := by rw [List.take_append_of_le_length (by simp)]; simp
  simp [fieldAt, h]

/-- A field that stands behind others is read behind them. -/
theorem fieldAt_append (front rest : List Byte) (place n : Nat) (h : front.length ≤ place) :
    fieldAt (front ++ rest) place n = fieldAt rest (place - front.length) n := by
  simp [fieldAt, List.drop_append, List.drop_eq_nil_of_le h]

end Machine
end Sys2Proof
end

