-- ==== Sys2Proof/Laws/Take.lean ====
section
/-! SUPPORT. The acts of the take and of the grant: `X_only` says which blocks X can change, `X_frame` the same block by block. -/

namespace Sys2Proof.Machine

theorem closeIfFull_only (i : Fin 32) (e : Entry) (s : State) :
    closeIfFull i e s = { s with lat := (closeIfFull i e s).lat } := by
  unfold closeIfFull; split <;> rfl

@[simp] theorem closeIfFull_frame (i : Fin 32) (e : Entry) (s : State) :
    (closeIfFull i e s).rqp = s.rqp ∧
    (closeIfFull i e s).starvation = s.starvation ∧
    (closeIfFull i e s).rdp = s.rdp ∧
    (closeIfFull i e s).ord = s.ord ∧
    (closeIfFull i e s).rsw = s.rsw ∧
    (closeIfFull i e s).mp = s.mp ∧
    (closeIfFull i e s).mc = s.mc ∧
    (closeIfFull i e s).nu = s.nu ∧
    (closeIfFull i e s).mli = s.mli ∧
    (closeIfFull i e s).held = s.held ∧
    (closeIfFull i e s).now = s.now ∧
    (closeIfFull i e s).out = s.out ∧
    (closeIfFull i e s).pending = s.pending := by
  rw [closeIfFull_only]; simp

theorem mergePiece_only (q : Request) (w : Option (Fin 16)) (p : Span) (i : Fin 32) (s : State) :
    mergePiece q w p i s = { s with lat := (mergePiece q w p i s).lat, nu := (mergePiece q w p i s).nu } := by
  unfold mergePiece; split
  · dsimp only; rw [closeIfFull_only]; rfl
  · rfl

@[simp] theorem mergePiece_frame (q : Request) (w : Option (Fin 16)) (p : Span) (i : Fin 32) (s : State) :
    (mergePiece q w p i s).rqp = s.rqp ∧
    (mergePiece q w p i s).starvation = s.starvation ∧
    (mergePiece q w p i s).rdp = s.rdp ∧
    (mergePiece q w p i s).ord = s.ord ∧
    (mergePiece q w p i s).rsw = s.rsw ∧
    (mergePiece q w p i s).mp = s.mp ∧
    (mergePiece q w p i s).mc = s.mc ∧
    (mergePiece q w p i s).mli = s.mli ∧
    (mergePiece q w p i s).held = s.held ∧
    (mergePiece q w p i s).now = s.now ∧
    (mergePiece q w p i s).out = s.out ∧
    (mergePiece q w p i s).pending = s.pending := by
  rw [mergePiece_only]; simp

theorem openPiece_only (q : Request) (w : Option (Fin 16)) (p : Span) (s : State) :
    openPiece q w p s = { s with lat := (openPiece q w p s).lat } := by
  unfold openPiece; split
  · dsimp only; rw [closeIfFull_only]; rfl
  · rfl

@[simp] theorem openPiece_frame (q : Request) (w : Option (Fin 16)) (p : Span) (s : State) :
    (openPiece q w p s).rqp = s.rqp ∧
    (openPiece q w p s).starvation = s.starvation ∧
    (openPiece q w p s).rdp = s.rdp ∧
    (openPiece q w p s).ord = s.ord ∧
    (openPiece q w p s).rsw = s.rsw ∧
    (openPiece q w p s).mp = s.mp ∧
    (openPiece q w p s).mc = s.mc ∧
    (openPiece q w p s).nu = s.nu ∧
    (openPiece q w p s).mli = s.mli ∧
    (openPiece q w p s).held = s.held ∧
    (openPiece q w p s).now = s.now ∧
    (openPiece q w p s).out = s.out ∧
    (openPiece q w p s).pending = s.pending := by
  rw [openPiece_only]; simp

theorem placePiece_only (q : Request) (w : Option (Fin 16)) (s : State) (p : Span) :
    placePiece q w s p = { s with lat := (placePiece q w s p).lat, nu := (placePiece q w s p).nu } := by
  unfold placePiece; split
  · exact mergePiece_only q w p _ s
  · rw [openPiece_only]

theorem placeAll_only (q : Request) (w : Option (Fin 16)) (l : List Span) (s : State) :
    l.foldl (placePiece q w) s =
      { s with lat := (l.foldl (placePiece q w) s).lat, nu := (l.foldl (placePiece q w) s).nu } := by
  induction l generalizing s with
  | nil => rfl
  | cons p rest ih => rw [List.foldl_cons, ih, placePiece_only]

theorem openRelease_only (q : Request) (w : Option (Fin 16)) (b : Barrier) (s : State) (p : Span) :
    openRelease q w b s p = { s with lat := (openRelease q w b s p).lat } := by
  unfold openRelease; split <;> rfl

theorem openReleaseAll_only (q : Request) (w : Option (Fin 16)) (b : Barrier) (l : List Span) (s : State) :
    l.foldl (openRelease q w b) s = { s with lat := (l.foldl (openRelease q w b) s).lat } := by
  induction l generalizing s with
  | nil => rfl
  | cons p rest ih => rw [List.foldl_cons, ih, openRelease_only]

theorem releaseOwnLines_only (q : Request) (s : State) :
    releaseOwnLines q s = { s with lat := (releaseOwnLines q s).lat } := by
  unfold releaseOwnLines
  induction requestSpans q generalizing s with
  | nil => rfl
  | cons p rest ih =>
    rw [List.foldl_cons, ih]
    split <;> rfl

theorem releaseTake_only (q : Request) (w : Option (Fin 16)) (k : Fin 8) (r : ReleaseRule) (s : State) :
    releaseTake q w k r s = { s with lat := (releaseTake q w k r s).lat, nu := (releaseTake q w k r s).nu } := by
  unfold releaseTake
  dsimp only
  rw [openReleaseAll_only, releaseOwnLines_only]
  split <;> rfl

@[simp] theorem releaseTake_frame (q : Request) (w : Option (Fin 16)) (k : Fin 8) (r : ReleaseRule) (s : State) :
    (releaseTake q w k r s).rqp = s.rqp ∧
    (releaseTake q w k r s).starvation = s.starvation ∧
    (releaseTake q w k r s).rdp = s.rdp ∧
    (releaseTake q w k r s).ord = s.ord ∧
    (releaseTake q w k r s).rsw = s.rsw ∧
    (releaseTake q w k r s).mp = s.mp ∧
    (releaseTake q w k r s).mc = s.mc ∧
    (releaseTake q w k r s).mli = s.mli ∧
    (releaseTake q w k r s).held = s.held ∧
    (releaseTake q w k r s).now = s.now ∧
    (releaseTake q w k r s).out = s.out ∧
    (releaseTake q w k r s).pending = s.pending := by
  rw [releaseTake_only]; simp

theorem placeWrite_only (q : Request) (w : Option (Fin 16)) (s : State) :
    placeWrite q w s = { s with lat := (placeWrite q w s).lat, nu := (placeWrite q w s).nu } := by
  unfold placeWrite; split
  · split
    · exact releaseTake_only q w _ _ s
    · rfl
  · exact placeAll_only q w _ s

@[simp] theorem placeWrite_frame (q : Request) (w : Option (Fin 16)) (s : State) :
    (placeWrite q w s).rqp = s.rqp ∧
    (placeWrite q w s).starvation = s.starvation ∧
    (placeWrite q w s).rdp = s.rdp ∧
    (placeWrite q w s).ord = s.ord ∧
    (placeWrite q w s).rsw = s.rsw ∧
    (placeWrite q w s).mp = s.mp ∧
    (placeWrite q w s).mc = s.mc ∧
    (placeWrite q w s).mli = s.mli ∧
    (placeWrite q w s).held = s.held ∧
    (placeWrite q w s).now = s.now ∧
    (placeWrite q w s).out = s.out ∧
    (placeWrite q w s).pending = s.pending := by
  rw [placeWrite_only]; simp

theorem takePosted_only (q : Request) (s : State) :
    takePosted q s = { s with lat := (takePosted q s).lat, nu := (takePosted q s).nu, out := (takePosted q s).out } := by
  unfold takePosted; rw [placeWrite_only]; rfl

@[simp] theorem takePosted_frame (q : Request) (s : State) :
    (takePosted q s).rqp = s.rqp ∧
    (takePosted q s).starvation = s.starvation ∧
    (takePosted q s).rdp = s.rdp ∧
    (takePosted q s).ord = s.ord ∧
    (takePosted q s).rsw = s.rsw ∧
    (takePosted q s).mp = s.mp ∧
    (takePosted q s).mc = s.mc ∧
    (takePosted q s).mli = s.mli ∧
    (takePosted q s).held = s.held ∧
    (takePosted q s).now = s.now ∧
    (takePosted q s).pending = s.pending := by
  rw [takePosted_only]; simp

theorem takeAoc_only (q : Request) (w : Fin 16) (s : State) :
    takeAoc q w s = { s with rqp := (takeAoc q w s).rqp, lat := (takeAoc q w s).lat, nu := (takeAoc q w s).nu } := by
  unfold takeAoc; rw [placeWrite_only]; rfl

@[simp] theorem takeAoc_frame (q : Request) (w : Fin 16) (s : State) :
    (takeAoc q w s).starvation = s.starvation ∧
    (takeAoc q w s).rdp = s.rdp ∧
    (takeAoc q w s).ord = s.ord ∧
    (takeAoc q w s).rsw = s.rsw ∧
    (takeAoc q w s).mp = s.mp ∧
    (takeAoc q w s).mc = s.mc ∧
    (takeAoc q w s).mli = s.mli ∧
    (takeAoc q w s).held = s.held ∧
    (takeAoc q w s).now = s.now ∧
    (takeAoc q w s).out = s.out ∧
    (takeAoc q w s).pending = s.pending := by
  rw [takeAoc_only]; simp

theorem resolvePiece_only (c : Fin 16) (i : Nat) (p : Span) (s : State) :
    (resolvePiece c i p s).1 = { s with rdp := (resolvePiece c i p s).1.rdp, nu := (resolvePiece c i p s).1.nu } := by
  unfold resolvePiece; split
  · dsimp only; rw [finishPiece_only]; rfl
  · dsimp only; rw [finishPiece_only]; rfl
  · rfl

/-- A piece needs memory exactly when neither pending bytes nor the pattern resolve it, and then nothing changes (R76). -/
theorem resolvePiece_memory (c : Fin 16) (i : Nat) (p : Span) (s : State) :
    (resolvePiece c i p s).2 = true ↔ resolve s p = .memory := by
  unfold resolvePiece; split <;> simp_all

theorem resolveAll_only (c : Fin 16) (i : Nat) (l : List Span) (s : State) :
    resolveAll c i l s = { s with rdp := (resolveAll c i l s).rdp, nu := (resolveAll c i l s).nu } := by
  induction l generalizing i s with
  | nil => rfl
  | cons p rest ih => unfold resolveAll; rw [ih, resolvePiece_only]

@[simp] theorem resolveAll_frame (c : Fin 16) (i : Nat) (l : List Span) (s : State) :
    (resolveAll c i l s).rqp = s.rqp ∧
    (resolveAll c i l s).lat = s.lat ∧
    (resolveAll c i l s).starvation = s.starvation ∧
    (resolveAll c i l s).ord = s.ord ∧
    (resolveAll c i l s).rsw = s.rsw ∧
    (resolveAll c i l s).mp = s.mp ∧
    (resolveAll c i l s).mc = s.mc ∧
    (resolveAll c i l s).mli = s.mli ∧
    (resolveAll c i l s).held = s.held ∧
    (resolveAll c i l s).now = s.now ∧
    (resolveAll c i l s).out = s.out ∧
    (resolveAll c i l s).pending = s.pending := by
  rw [resolveAll_only]; simp

theorem takeRead_only (q : Request) (c : Fin 16) (s : State) :
    takeRead q c s = { s with rqp := (takeRead q c s).rqp, rdp := (takeRead q c s).rdp, nu := (takeRead q c s).nu } := by
  unfold takeRead; dsimp only; rw [resolveAll_only]; rfl

@[simp] theorem takeRead_frame (q : Request) (c : Fin 16) (s : State) :
    (takeRead q c s).lat = s.lat ∧
    (takeRead q c s).starvation = s.starvation ∧
    (takeRead q c s).ord = s.ord ∧
    (takeRead q c s).rsw = s.rsw ∧
    (takeRead q c s).mp = s.mp ∧
    (takeRead q c s).mc = s.mc ∧
    (takeRead q c s).mli = s.mli ∧
    (takeRead q c s).held = s.held ∧
    (takeRead q c s).now = s.now ∧
    (takeRead q c s).out = s.out ∧
    (takeRead q c s).pending = s.pending := by
  rw [takeRead_only]; simp

theorem takeSync_only (q : Request) (s : State) :
    takeSync q s = { s with rqp := (takeSync q s).rqp, lat := (takeSync q s).lat, ord := (takeSync q s).ord, out := (takeSync q s).out } := by
  unfold takeSync; split <;> rfl

@[simp] theorem takeSync_frame (q : Request) (s : State) :
    (takeSync q s).starvation = s.starvation ∧
    (takeSync q s).rdp = s.rdp ∧
    (takeSync q s).rsw = s.rsw ∧
    (takeSync q s).mp = s.mp ∧
    (takeSync q s).mc = s.mc ∧
    (takeSync q s).nu = s.nu ∧
    (takeSync q s).mli = s.mli ∧
    (takeSync q s).held = s.held ∧
    (takeSync q s).now = s.now ∧
    (takeSync q s).pending = s.pending := by
  rw [takeSync_only]; simp

theorem takeRefused_only (q : Request) (status : ResponseStatus) (cause : RefusalCause) (s : State) :
    takeRefused q status cause s = { s with nu := (takeRefused q status cause s).nu, out := (takeRefused q status cause s).out } := by
  unfold takeRefused; rfl

@[simp] theorem takeRefused_frame (q : Request) (status : ResponseStatus) (cause : RefusalCause) (s : State) :
    (takeRefused q status cause s).rqp = s.rqp ∧
    (takeRefused q status cause s).lat = s.lat ∧
    (takeRefused q status cause s).starvation = s.starvation ∧
    (takeRefused q status cause s).rdp = s.rdp ∧
    (takeRefused q status cause s).ord = s.ord ∧
    (takeRefused q status cause s).rsw = s.rsw ∧
    (takeRefused q status cause s).mp = s.mp ∧
    (takeRefused q status cause s).mc = s.mc ∧
    (takeRefused q status cause s).mli = s.mli ∧
    (takeRefused q status cause s).held = s.held ∧
    (takeRefused q status cause s).now = s.now ∧
    (takeRefused q status cause s).pending = s.pending := by
  rw [takeRefused_only]; simp

theorem leaveIntake_only (s : State) :
    leaveIntake s = { s with rqp := (leaveIntake s).rqp, lat := (leaveIntake s).lat } := by
  unfold leaveIntake; rw [judgeHead_only]; rfl

@[simp] theorem leaveIntake_frame (s : State) :
    (leaveIntake s).starvation = s.starvation ∧
    (leaveIntake s).rdp = s.rdp ∧
    (leaveIntake s).ord = s.ord ∧
    (leaveIntake s).rsw = s.rsw ∧
    (leaveIntake s).mp = s.mp ∧
    (leaveIntake s).mc = s.mc ∧
    (leaveIntake s).nu = s.nu ∧
    (leaveIntake s).mli = s.mli ∧
    (leaveIntake s).held = s.held ∧
    (leaveIntake s).now = s.now ∧
    (leaveIntake s).out = s.out ∧
    (leaveIntake s).pending = s.pending := by
  rw [leaveIntake_only]; simp

theorem takeServed_only (q : Request) (s : State) {t : State} (h : takeServed q s = some t) :
    t = { s with rqp := t.rqp, lat := t.lat, rdp := t.rdp, ord := t.ord, nu := t.nu, out := t.out } := by
  unfold takeServed at h
  split at h
  · split at h
    · cases h; rw [takeRead_only]
    · cases h
  · split at h
    · cases h
    · split at h
      · split at h
        · cases h; rw [takeAoc_only]
        · cases h
      · cases h; rw [takePosted_only]
  · cases h; rw [takeSync_only]
  · cases h

theorem takeHead_only (q : Request) (s : State) :
    takeHead q s = { s with rqp := (takeHead q s).rqp, lat := (takeHead q s).lat, rdp := (takeHead q s).rdp, ord := (takeHead q s).ord, nu := (takeHead q s).nu, out := (takeHead q s).out } := by
  unfold takeHead; split
  · rfl
  · rw [leaveIntake_only]; rfl
  · rw [leaveIntake_only, takeRefused_only]
  · dsimp only
    split
    · rename_i t h
      have ht := takeServed_only q _ h
      rw [leaveIntake_only, ht]
      split <;> simp
    · split
      · rw [resourceCloses_only]
      · rfl

@[simp] theorem takeHead_frame (q : Request) (s : State) :
    (takeHead q s).starvation = s.starvation ∧
    (takeHead q s).rsw = s.rsw ∧
    (takeHead q s).mp = s.mp ∧
    (takeHead q s).mc = s.mc ∧
    (takeHead q s).mli = s.mli ∧
    (takeHead q s).held = s.held ∧
    (takeHead q s).now = s.now ∧
    (takeHead q s).pending = s.pending := by
  rw [takeHead_only]; simp

theorem issueEntry_only (slot : Fin 16) (i : Fin 32) (e : Entry) (s : State) :
    issueEntry slot i e s = { s with lat := (issueEntry slot i e s).lat, rsw := (issueEntry slot i e s).rsw, mp := (issueEntry slot i e s).mp } := by
  unfold issueEntry; dsimp only; rw [claimBegan_only]; rfl

@[simp] theorem issueEntry_frame (slot : Fin 16) (i : Fin 32) (e : Entry) (s : State) :
    (issueEntry slot i e s).rqp = s.rqp ∧
    (issueEntry slot i e s).starvation = s.starvation ∧
    (issueEntry slot i e s).rdp = s.rdp ∧
    (issueEntry slot i e s).ord = s.ord ∧
    (issueEntry slot i e s).mc = s.mc ∧
    (issueEntry slot i e s).nu = s.nu ∧
    (issueEntry slot i e s).mli = s.mli ∧
    (issueEntry slot i e s).held = s.held ∧
    (issueEntry slot i e s).now = s.now ∧
    (issueEntry slot i e s).out = s.out ∧
    (issueEntry slot i e s).pending = s.pending := by
  rw [issueEntry_only]; simp

theorem grantWrite_only (slot : Fin 16) (s : State) :
    grantWrite slot s = { s with lat := (grantWrite slot s).lat, rsw := (grantWrite slot s).rsw, mp := (grantWrite slot s).mp } := by
  unfold grantWrite; split
  · split
    · exact issueEntry_only _ _ _ s
    · rfl
  · rfl

@[simp] theorem grantWrite_frame (slot : Fin 16) (s : State) :
    (grantWrite slot s).rqp = s.rqp ∧
    (grantWrite slot s).starvation = s.starvation ∧
    (grantWrite slot s).rdp = s.rdp ∧
    (grantWrite slot s).ord = s.ord ∧
    (grantWrite slot s).mc = s.mc ∧
    (grantWrite slot s).nu = s.nu ∧
    (grantWrite slot s).mli = s.mli ∧
    (grantWrite slot s).held = s.held ∧
    (grantWrite slot s).now = s.now ∧
    (grantWrite slot s).out = s.out ∧
    (grantWrite slot s).pending = s.pending := by
  rw [grantWrite_only]; simp

theorem grantRead_only (slot : Fin 16) (l : List (Fin 16 × Nat × Span)) (s : State) :
    grantRead slot l s = { s with rdp := (grantRead slot l s).rdp, rsw := (grantRead slot l s).rsw, mp := (grantRead slot l s).mp, nu := (grantRead slot l s).nu } := by
  induction l generalizing s with
  | nil => rfl
  | cons x rest ih =>
    obtain ⟨c, i, p⟩ := x
    unfold grantRead
    dsimp only
    split
    · rw [claimBegan_only, setPieceState_only]; rfl
    · rw [ih, resolvePiece_only]

@[simp] theorem grantRead_frame (slot : Fin 16) (l : List (Fin 16 × Nat × Span)) (s : State) :
    (grantRead slot l s).rqp = s.rqp ∧
    (grantRead slot l s).lat = s.lat ∧
    (grantRead slot l s).starvation = s.starvation ∧
    (grantRead slot l s).ord = s.ord ∧
    (grantRead slot l s).mc = s.mc ∧
    (grantRead slot l s).mli = s.mli ∧
    (grantRead slot l s).held = s.held ∧
    (grantRead slot l s).now = s.now ∧
    (grantRead slot l s).out = s.out ∧
    (grantRead slot l s).pending = s.pending := by
  rw [grantRead_only]; simp

theorem grantSweep_only (slot : Fin 16) (s : State) :
    grantSweep slot s = { s with rsw := (grantSweep slot s).rsw, mp := (grantSweep slot s).mp } := by
  unfold grantSweep; split
  · split <;> rfl
  all_goals rfl

@[simp] theorem grantSweep_frame (slot : Fin 16) (s : State) :
    (grantSweep slot s).rqp = s.rqp ∧
    (grantSweep slot s).lat = s.lat ∧
    (grantSweep slot s).starvation = s.starvation ∧
    (grantSweep slot s).rdp = s.rdp ∧
    (grantSweep slot s).ord = s.ord ∧
    (grantSweep slot s).mc = s.mc ∧
    (grantSweep slot s).nu = s.nu ∧
    (grantSweep slot s).mli = s.mli ∧
    (grantSweep slot s).held = s.held ∧
    (grantSweep slot s).now = s.now ∧
    (grantSweep slot s).out = s.out ∧
    (grantSweep slot s).pending = s.pending := by
  rw [grantSweep_only]; simp

end Sys2Proof.Machine
end

