-- ==== Sys2Proof/Laws/Lookups.lean ====
section
/-! SUPPORT. What the lookups answer, what a close and an entry's end leave of the table, and the orders of the lists. -/

namespace Sys2Proof

/-- The lowest index found: every lower record fails the property. -/
theorem Table.findLowest_lt {α : Type} {n : Nat} {t : Table α n} {p : α → Bool} {i j : Fin n}
    (h : t.findLowest p = some i) (hj : j < i) : p (t.get j) = false := by
  obtain ⟨_, k, hk, rfl, hlt⟩ := List.find?_eq_some_iff_getElem.1 h
  have hjk : j.val < k := by simpa [Fin.lt_def] using hj
  have := hlt j.val hjk
  simpa using this

end Sys2Proof

namespace Sys2Proof.Machine

/-! ## Lookups -/

theorem entryIs_iff {p : Entry → Bool} {e : Option Entry} : entryIs p e = true ↔ ∃ x, e = some x ∧ p x = true := by
  cases e <;> simp [entryIs]

/-- The GATHERING entry that is found has the line (R3). -/
theorem gatheringOf_some {l : Lat} {line : Nat} {i : Fin 32} (h : gatheringOf l line = some i) :
    ∃ e, l.entries.get i = some e ∧ e.state = .gathering ∧ e.line = line := by
  obtain ⟨e, he, h⟩ := entryIs_iff.1 (Table.findLowest_some h)
  simp [isGathering] at h
  exact ⟨e, he, h.1, h.2⟩

/-- No GATHERING entry of the line is found when there is none (R3). -/
theorem gatheringOf_none {l : Lat} {line : Nat} (h : gatheringOf l line = none) {i : Fin 32} {e : Entry}
    (he : l.entries.get i = some e) (hg : e.state = .gathering) : e.line ≠ line := by
  have := Table.findLowest_none h i
  rw [he] at this
  simpa [entryIs, isGathering, hg] using this

theorem lowestFreeEntry_some {l : Lat} {i : Fin 32} (h : lowestFreeEntry l = some i) : l.entries.get i = none := by
  simpa using Table.findLowest_some h

@[simp] theorem has_entrySet (l : Lat) (p : Entry → Bool) (i : Fin 32) :
    (entrySet l p).has i = entryIs p (l.entries.get i) := by simp [entrySet]

/-- A line is claimed exactly by a slot that holds it (R117). -/
theorem claimed_iff (m : Mp) (line : Nat) :
    claimed m line = true ↔ ∃ i, slotClaim (m.slots.get i) = some line := by
  rw [claimed, Table.any_iff]; simp

theorem lowestFreeSlot_some {m : Mp} {i : Fin 16} (h : lowestFreeSlot m = some i) : m.slots.get i = .free := by
  simpa [slotFree] using Table.findLowest_some h

/-! ## Numbers newer than all in use (R17, R71) -/

theorem le_foldl_max {α : Type} (f : α → Nat) (l : List α) (m : Nat) :
    m ≤ l.foldl (fun m x => max m (f x)) m ∧ ∀ x ∈ l, f x ≤ l.foldl (fun m x => max m (f x)) m := by
  induction l generalizing m with
  | nil => simp
  | cons a rest ih =>
    rw [List.foldl_cons]
    have h := ih (max m (f a))
    refine ⟨by omega, ?_⟩
    intro x hx
    rcases List.mem_cons.1 hx with rfl | hx
    · omega
    · exact h.2 x hx

theorem Table.get_mem {α : Type} {n : Nat} (t : Table α n) (i : Fin n) : t.get i ∈ t.cells := List.getElem_mem _

/-- A new close number is newer than every one an entry holds (R17). -/
theorem lt_newCloseNumber {l : Lat} {i : Fin 32} {e : Entry} {m : Nat} (he : l.entries.get i = some e)
    (hm : e.closeNumber = some m) : m < newCloseNumber l := by
  have h := (le_foldl_max (fun e : Option Entry => (e.bind Entry.closeNumber).getD 0) l.entries.cells 0).2 _
    (Table.get_mem l.entries i)
  rw [he] at h
  simp only [Option.bind_some, hm, Option.getD_some] at h
  simp only [newCloseNumber]
  omega

/-- A new age is newer than that of every ACTIVE context (R71). -/
theorem lt_newAge {u : Rdp} {c : Fin 16} {x : Context} (hx : u.contexts.get c = some x) : x.age < newAge u := by
  have h := (le_foldl_max (fun c : Option Context => (c.map Context.age).getD 0) u.contexts.cells 0).2 _
    (Table.get_mem u.contexts c)
  rw [hx] at h
  simp only [Option.map_some, Option.getD_some] at h
  simp only [newAge]
  omega

/-! ## Closing (R17) -/

/-- What closes leave of the table: an entry is as it was, or was GATHERING and is CLOSED. -/
theorem closeIn_get (cause : CloseCause) (i j : Fin 32) (l : Lat) :
    (closeIn cause i l).entries.get j = l.entries.get j ∨
    (i = j ∧ ∃ e n, l.entries.get j = some e ∧ e.state = .gathering ∧
      (closeIn cause i l).entries.get j = some { e with state := .closed, closeNumber := some n, deadline := none }) := by
  rcases closeIn_cases cause i l with h | ⟨e, he, hg, h⟩
  · rw [h]; exact .inl rfl
  · rw [h]
    by_cases hij : i = j
    · subst hij; exact .inr ⟨rfl, e, newCloseNumber l, he, hg, by simp⟩
    · exact .inl (by simp [Table.get_set_ne _ hij])

theorem closeEach_get (cause : CloseCause) (list : List (Fin 32)) (j : Fin 32) (l : Lat) :
    (closeEach cause list l).entries.get j = l.entries.get j ∨
    (j ∈ list ∧ ∃ e n, l.entries.get j = some e ∧ e.state = .gathering ∧
      (closeEach cause list l).entries.get j =
        some { e with state := .closed, closeNumber := some n, deadline := none }) := by
  induction list generalizing l with
  | nil => exact .inl rfl
  | cons i rest ih =>
    rw [closeEach, List.foldl_cons]
    change (closeEach cause rest (closeIn cause i l)).entries.get j = _ ∨ _
    rcases ih (closeIn cause i l) with h | ⟨hm, e, n, he, hg, h⟩
    · rcases closeIn_get cause i j l with h' | ⟨rfl, e, n, he, hg, h'⟩
      · exact .inl (h.trans h')
      · exact .inr ⟨by simp, e, n, he, hg, h.trans h'⟩
    · rcases closeIn_get cause i j l with h' | ⟨rfl, e', n', he', hg', h'⟩
      · exact .inr ⟨by simp [hm], e, n, h' ▸ he, hg, h⟩
      · rw [h'] at he
        simp only [Option.some.injEq] at he
        subst he
        simp at hg

theorem closeEach_isSome (cause : CloseCause) (list : List (Fin 32)) (j : Fin 32) (l : Lat) :
    ((closeEach cause list l).entries.get j).isSome = (l.entries.get j).isSome := by
  rcases closeEach_get cause list j l with h | ⟨_, e, n, he, _, h⟩ <;> simp [*]

/-- A GATHERING entry of the list is CLOSED afterwards. -/
theorem closeEach_closes (cause : CloseCause) (list : List (Fin 32)) {j : Fin 32} (hj : j ∈ list) (l : Lat) :
    entryIs isGathering ((closeEach cause list l).entries.get j) = false := by
  induction list generalizing l with
  | nil => simp at hj
  | cons i rest ih =>
    rw [closeEach, List.foldl_cons]
    change entryIs isGathering ((closeEach cause rest (closeIn cause i l)).entries.get j) = false
    by_cases hr : j ∈ rest
    · exact ih hr _
    · have hij : j = i := by simpa [hr] using hj
      subst hij
      have hc : entryIs isGathering ((closeIn cause j l).entries.get j) = false := by
        unfold closeIn
        cases he : l.entries.get j with
        | none => simp [he, entryIs]
        | some e =>
          by_cases hg : isGathering e = true
          · simp only [hg, if_true, Table.get_set_self]; rfl
          · simp [hg, he, entryIs]
      rcases closeEach_get cause rest j (closeIn cause j l) with h | ⟨hm, _⟩
      · rw [h]; exact hc
      · exact absurd hm hr

/-- After a close of all that satisfy `p`, no GATHERING entry satisfies it (R17). -/
theorem closeWhere_none (cause : CloseCause) (p : Entry → Bool) (s : State) {j : Fin 32} {e : Entry}
    (he : (closeWhere cause p s).lat.entries.get j = some e) (hg : e.state = .gathering) :
    p e = false ∧ s.lat.entries.get j = some e := by
  have hcl := closeEach_closes cause (s.lat.entries.indices (entryIs (fun e => isGathering e && p e))) (j := j) (l := s.lat)
  rcases closeEach_get cause (s.lat.entries.indices (entryIs (fun e => isGathering e && p e))) j s.lat with h | ⟨_, x, n, _, _, h⟩
  · have he' : s.lat.entries.get j = some e := by rw [← h]; exact he
    refine ⟨?_, he'⟩
    by_contra hp
    have hm : j ∈ s.lat.entries.indices (entryIs (fun e => isGathering e && p e)) := by
      rw [Table.mem_indices, he']
      simpa [entryIs, isGathering, hg] using hp
    have := hcl hm
    rw [h, he'] at this
    simp [entryIs, isGathering, hg] at this
  · have he' : (closeEach cause (s.lat.entries.indices (entryIs (fun e => isGathering e && p e))) s.lat).entries.get j =
        some e := he
    rw [h] at he'
    simp only [Option.some.injEq] at he'
    subst he'
    simp at hg

/-- What holds of each earlier member of an ascending list and each later one holds of a smaller member and a greater one. -/
theorem pairwise_of_lt {n : Nat} {R : Fin n → Fin n → Prop} {l : List (Fin n)} (hs : l.Pairwise (· < ·)) (hp : l.Pairwise R)
    {a b : Fin n} (ha : a ∈ l) (hb : b ∈ l) (hab : a < b) : R a b := by
  induction l with
  | nil => simp at ha
  | cons x rest ih =>
    rw [List.pairwise_cons] at hs hp
    rcases List.mem_cons.1 ha with rfl | ha'
    · rcases List.mem_cons.1 hb with rfl | hb'
      · omega
      · exact hp.1 b hb'
    · rcases List.mem_cons.1 hb with rfl | hb'
      · have := hs.1 a ha'; omega
      · exact ih hs.2 hp.2 ha' hb'

/-- What the closes of a list of GATHERING entries do, for any cause but EVICT: each stays with its fields and takes a close number
newer than every earlier one, in the order of the list, which joins the Issue Queue (R17). -/
theorem closeEach_law {cause : CloseCause} (hc : cause ≠ .evict) (list : List (Fin 32)) (l : Lat) (hn : list.Nodup)
    (hg : ∀ i ∈ list, entryIs isGathering (l.entries.get i) = true) :
    (closeEach cause list l).issueQueue = l.issueQueue ++ list ∧ (closeEach cause list l).evictMark = l.evictMark ∧
    (∀ j, j ∉ list → (closeEach cause list l).entries.get j = l.entries.get j) ∧
    (∀ j ∈ list, ∀ e, l.entries.get j = some e → ∃ n, newCloseNumber l ≤ n ∧
      (closeEach cause list l).entries.get j = some { e with state := .closed, closeNumber := some n, deadline := none }) ∧
    list.Pairwise (fun i j => ∀ e f m n, (closeEach cause list l).entries.get i = some e →
      (closeEach cause list l).entries.get j = some f → e.closeNumber = some m → f.closeNumber = some n → m < n) := by
  induction list generalizing l with
  | nil => simp [closeEach]
  | cons i rest ih =>
    obtain ⟨hi, hn⟩ := List.nodup_cons.1 hn
    obtain ⟨x, hx, hxg⟩ := entryIs_iff.1 (hg i (by simp))
    have hl : closeIn cause i l =
        { entries := l.entries.set i (some { x with state := .closed, closeNumber := some (newCloseNumber l), deadline := none }),
          issueQueue := l.issueQueue ++ [i], evictMark := l.evictMark } := by simp [closeIn, hx, hxg, hc]
    have hself : (closeIn cause i l).entries.get i =
        some { x with state := .closed, closeNumber := some (newCloseNumber l), deadline := none } := by simp [hl]
    have hne : ∀ j, j ≠ i → (closeIn cause i l).entries.get j = l.entries.get j := fun j h => by
      simp [hl, Table.get_set_ne _ h.symm]
    have hlt : newCloseNumber l < newCloseNumber (closeIn cause i l) := lt_newCloseNumber hself rfl
    have hji : ∀ j ∈ rest, j ≠ i := fun j hj h => hi (h ▸ hj)
    obtain ⟨hq, hm, hk, hcl, hp⟩ := ih (closeIn cause i l) hn fun j hj => by
      rw [hne j (hji j hj)]; exact hg j (by simp [hj])
    rw [show closeEach cause (i :: rest) l = closeEach cause rest (closeIn cause i l) from rfl]
    have hi' := (hk i hi).trans hself
    refine ⟨by rw [hq, hl]; simp, by rw [hm, hl], ?_, ?_, List.pairwise_cons.2 ⟨?_, hp⟩⟩
    · intro j hj
      obtain ⟨h, hr⟩ := not_or.1 (mt List.mem_cons.2 hj)
      rw [hk j hr, hne j h]
    · intro j hj e he
      rcases List.mem_cons.1 hj with rfl | hj
      · rw [hx] at he; cases he
        exact ⟨_, le_refl _, hi'⟩
      · obtain ⟨n, hle, h⟩ := hcl j hj e (by rw [hne j (hji j hj), he])
        exact ⟨n, by omega, h⟩
    · intro j hj e f m n he hf hem hfn
      rw [hi'] at he; cases he
      obtain ⟨y, hy, -⟩ := entryIs_iff.1 (hg j (by simp [hj]))
      obtain ⟨k, hle, h⟩ := hcl j hj y (by rw [hne j (hji j hj), hy])
      rw [h] at hf; cases hf
      cases hem; cases hfn
      omega

/-- Closes of a list of GATHERING entries are closes in turn (R17). -/
theorem closeEach_inTurn {cause : CloseCause} (hc : cause ≠ .evict) (list : List (Fin 32)) (l : Lat) (hn : list.Nodup)
    (hg : ∀ i ∈ list, entryIs isGathering (l.entries.get i) = true) : ClosedInTurn list l (closeEach cause list l) := by
  obtain ⟨-, -, -, hcl, hp⟩ := closeEach_law hc list l hn hg
  refine ⟨fun i hi e he => ?_, hp⟩
  obtain ⟨n, hle, h⟩ := hcl i hi e he
  exact ⟨n, h, fun j x m hx hm => Nat.lt_of_lt_of_le (lt_newCloseNumber hx hm) hle⟩

/-- A close of all that satisfy `p`, for any cause but EVICT, is the close in ascending entry index (R17). -/
theorem closeWhere_closed {cause : CloseCause} (hc : cause ≠ .evict) (p : Entry → Bool) (s : State) :
    ClosedInOrder p s.lat (closeWhere cause p s).lat := by
  obtain ⟨hq, hm, hk, hcl, hp⟩ := closeEach_law hc (s.lat.entries.indices (entryIs (fun e => isGathering e && p e))) s.lat
    (Table.indices_nodup _ _) fun i hi => by
      obtain ⟨e, he, h⟩ := entryIs_iff.1 ((Table.mem_indices _ _ _).1 hi)
      exact entryIs_iff.2 ⟨e, he, (Bool.and_eq_true_iff.1 h).1⟩
  refine ⟨hq, ?_, ?_, ?_, hm⟩
  · intro i e he hs hpe
    obtain ⟨n, hle, h⟩ := hcl i ((Table.mem_indices _ _ _).2 (entryIs_iff.2 ⟨e, he, by simp [isGathering, hs, hpe]⟩)) e he
    exact ⟨n, h, fun j x m hx hxm => Nat.lt_of_lt_of_le (lt_newCloseNumber hx hxm) hle⟩
  · intro i j e f m n hij hi hj
    have hsorted : (s.lat.entries.indices (entryIs (fun e => isGathering e && p e))).Pairwise (· < ·) :=
      (List.pairwise_lt_finRange 32).filter _
    exact pairwise_of_lt hsorted hp ((Table.mem_indices _ _ _).2 hi) ((Table.mem_indices _ _ _).2 hj) hij e f m n
  · intro i hi
    exact hk i (by rw [Table.mem_indices, hi]; simp)

/-! ## The end of an entry (R21, R45) -/

/-- An entry that ends is FREE, every other forgets it, and the Issue Queue is as it was. -/
theorem endEntry_lat {i : Fin 32} {e : Entry} (kind : EndKind) {s : State} (he : s.lat.entries.get i = some e) :
    (endEntry i kind s).lat =
      { entries := (s.lat.entries.map (entryWithout i (endFailed kind))).set i none,
        issueQueue := s.lat.issueQueue,
        evictMark := if s.lat.evictMark = some i then none else s.lat.evictMark } := by
  unfold endEntry
  rw [he]
  dsimp only
  unfold completionEffects
  dsimp only
  unfold freeEntry
  cases kind <;> simp [endFailed, forgetEntry, setFailureFlags]

/-- An entry that ends leaves the LAT without it. -/
theorem endEntry_latWithout {i : Fin 32} {e : Entry} (kind : EndKind) {s : State} (he : s.lat.entries.get i = some e) :
    (endEntry i kind s).lat = latWithout i (endFailed kind) s.lat := by
  rw [endEntry_lat kind he, latWithout]
  congr 1
  apply Table.ext_get
  intro j
  by_cases h : j = i
  · subst h; simp
  · simp only [Table.get_set_ne _ (Ne.symm h), Table.get_map, Table.get_ofFn, h, if_false]; rfl

/-! ## The judgement of the head and the drain test (R136, R153) -/

/-- A judgement of the head makes the closes of the resource step, and nothing else of the LAT changes. -/
theorem judgeHead_lat (s : State) : (judgeHead s).lat = judgedLat s.rqp.intake.head? s := by
  unfold judgeHead judgedLat
  cases s.rqp.intake with
  | nil => rfl
  | cons q rest => dsimp only [List.head?_cons]; split <;> rfl

/-- The drain test finds the condition of R153. -/
theorem drained_iff (s : State) : drained s = true ↔ DrainCondition s := by
  unfold drained DrainCondition
  simp only [Bool.and_eq_true, Table.all_iff, Option.isNone_iff_eq_none, Bool.not_eq_true', and_assoc]
  cases s.rsw.engine <;> simp [engineWrites]

/-! ## The Ahead List (R100) -/

theorem mem_insertAhead (r x : AheadRecord) (l : List AheadRecord) : x ∈ insertAhead r l ↔ x = r ∨ x ∈ l := by
  induction l with
  | nil => simp [insertAhead]
  | cons a rest ih =>
    unfold insertAhead
    split
    · simp
    · simp only [List.mem_cons, ih]; tauto

@[simp] theorem length_insertAhead (r : AheadRecord) (l : List AheadRecord) :
    (insertAhead r l).length = l.length + 1 := by
  induction l with
  | nil => rfl
  | cons a rest ih =>
    unfold insertAhead
    split
    · rfl
    · simp [ih]

/-- A record of a line that the list lacks takes its place in ascending line order (R100). -/
theorem pairwise_insertAhead {r : AheadRecord} {l : List AheadRecord} (h : l.Pairwise (fun a b => a.line < b.line))
    (hr : ∀ x ∈ l, x.line ≠ r.line) : (insertAhead r l).Pairwise (fun a b => a.line < b.line) := by
  induction l with
  | nil => simp [insertAhead]
  | cons a rest ih =>
    rw [List.pairwise_cons] at h
    unfold insertAhead
    split
    · rename_i hlt
      rw [List.pairwise_cons]
      refine ⟨?_, List.pairwise_cons.2 h⟩
      intro x hx
      rcases List.mem_cons.1 hx with rfl | hx
      · exact hlt
      · have := h.1 x hx; omega
    · rename_i hlt
      rw [List.pairwise_cons]
      refine ⟨?_, ih h.2 (fun x hx => hr x (List.mem_cons_of_mem _ hx))⟩
      intro x hx
      rcases (mem_insertAhead r x rest).1 hx with rfl | hx
      · have := hr a (by simp); omega
      · exact h.1 x hx

/-- A line that takes PATTERN fill has no Ahead List record (R98). -/
theorem aheadOf_of_uninitialised {u : Rsw} {line : Nat} {pattern : Table Byte 8}
    (h : uninitialisedPattern u line = some pattern) : ∀ x ∈ u.ahead, x.line ≠ line := by
  have hn : aheadOf u line = none := by
    unfold uninitialisedPattern at h
    split at h
    · split at h
      · split at h
        · rename_i hc; simpa using hc.2
        · cases h
      · cases h
      · cases h
    · cases h
  intro x hx
  have := List.find?_eq_none.1 hn x hx
  simpa using this

/-! ## Posting (R160, R162) -/

@[simp] theorem postAll_nil (u : Nu) : postAll [] u = u := rfl
@[simp] theorem postAll_cons (body : NoticeBody) (bodies : List NoticeBody) (u : Nu) :
    postAll (body :: bodies) u = postAll bodies (postToNu body u) := rfl
theorem postAll_append (a b : List NoticeBody) (u : Nu) : postAll (a ++ b) u = postAll b (postAll a u) :=
  List.foldl_append

/-- A post keeps the bound of the queue and the notice line true of the queue. -/
theorem postToNu_law (body : NoticeBody) {u : Nu}
    (h : u.line = u.queue.any (noticeEnabled u.enables) ∧ u.queue.length ≤ Config.noticeCapacity) :
    (postToNu body u).line = (postToNu body u).queue.any (noticeEnabled (postToNu body u).enables) ∧
    (postToNu body u).queue.length ≤ Config.noticeCapacity := by
  unfold postToNu
  split
  · rename_i hl
    refine ⟨rfl, ?_⟩
    simp only [judgeLine, List.length_append, List.length_singleton]
    omega
  · exact h

end Sys2Proof.Machine
end

