-- ==== Sys2Proof/Tests/Slice0.lean ====
section
/-! SUPPORT. Tests on small states: the checks of WellFormed, frames written out from Table 12-6, one or two single steps for each
command with the values of the worked sequences, and a witness for the hypotheses of each statement. -/

open Sys2Proof Sys2Proof.Machine

namespace Sys2Proof.Tests

/-! ## Small states -/

/-- The pattern of sequence 11.5. -/
def pat : Table Byte 8 := ⟨[0x00#8, 0x11#8, 0x22#8, 0x33#8, 0x44#8, 0x55#8, 0x66#8, 0x77#8], rfl⟩

/-- Region 0 of the worked sequences, 16 MiB from 0. -/
def info0 : RegionInfo := { base := 0, size := 0x1000000, pattern := pat, faults := 0#16 }

/-- Region 1 of sequence 11.5, 64 KiB. -/
def info1 : RegionInfo := { base := 0x100000000, size := 0x10000, pattern := pat, faults := 0#16 }

/-- ONLINE, with region 0 READY and region 1 SWEEPING at its fifth line; the engine does nothing yet. -/
def online : State :=
  { State.reset with
    rsw :=
      { regions := ((Table.fill 8 Region.absent).set 0 (.ready info0)).set 1 (.sweeping info1 0x100000100),
        ahead := [], engine := .idle },
    mc := { mode := .online, running := .none, last := none } }

/-- `s` in another mode. -/
def inMode (m : Mode) (s : State) : State := { s with mc := { s.mc with mode := m } }

/-- `s` with requests in the Intake Queue. -/
def withIntake (l : List Request) (s : State) : State := { s with rqp := { s.rqp with intake := l } }

/-- `s` with an entry. -/
def withEntry (i : Fin 32) (e : Entry) (s : State) : State :=
  { s with lat := { s.lat with
      entries := s.lat.entries.set i (some e),
      issueQueue := if e.state = .closed then s.lat.issueQueue ++ [i] else s.lat.issueQueue } }

/-- `s` with a slot. -/
def withSlot (n : Fin 16) (x : Slot) (s : State) : State := { s with mp := { s.mp with slots := s.mp.slots.set n x } }

/-- `s` with an engine state. -/
def withEngine (e : Engine) (s : State) : State := { s with rsw := { s.rsw with engine := e } }

/-- A request without data. -/
def ask (k : RequestKind) (r : Requester) (tag : Tag) (address : BitVec 40) (n : Fin 128) : Request :=
  { kind := k, requester := r, tag := tag, aoc := false, length := n, address := address, data := [] }

/-- A WRITE of `n` bytes 0xAB. -/
def store (r : Requester) (tag : Tag) (aoc : Bool) (address : BitVec 40) (n : Fin 128) : Request :=
  { kind := .write, requester := r, tag := tag, aoc := aoc, length := n, address := address,
    data := List.replicate n.val 0xAB#8 }

/-- A GATHERING entry with bytes 0x11 at `count` offsets from `first`, written by requester `r`. -/
def gatheringEntry (line first count : Nat) (r : Requester) : Entry :=
  { state := .gathering, line := line,
    cells := writeSpan blankCells { line := line, first := first, count := count, pos := 0 }
      (List.replicate count 0x11#8),
    contributors := (FinSet.empty 16).insert r, held := [], closeNumber := none, barrier := none,
    deadline := some 26, lastMerge := 10, fill := none }

/-- Such an entry in CLOSED. -/
def closedEntry (line first count : Nat) (r : Requester) (n : Nat) : Entry :=
  { gatheringEntry line first count r with state := .closed, closeNumber := some n, deadline := none }

/-- Such an entry issued with a fill. -/
def issuedAs (state : EntryState) (f : Fill) (line first count : Nat) (r : Requester) : Entry :=
  { closedEntry line first count r 1 with state := state, fill := some f }

/-- Rule 1 of sequence 11.4. -/
def rule1 : ReleaseRule :=
  { base := 0x200000, limit := 0x200040, requester := some 4, scope := .own, suppress := true, note := false }

/-- `s` with rule 1 of sequence 11.4. -/
def withRule (s : State) : State := { s with ord := { s.ord with rules := s.ord.rules.set 1 (some rule1) } }

/-- The next state of a command. -/
def after (c : Instr) (s : State) : Option State :=
  match exec c s with
  | .next t => some t
  | .fault _ => none
  | .refused _ => none

/-- The last answer part that a command forms, as bytes. -/
def answered (c : Instr) (s : State) : Option (List Byte) :=
  (after c s).bind (fun t => t.out.answers.getLast?.map answerBytes)

/-! ## WellFormed refuses each ill-formed term -/

theorem smoke_write_with_wrong_data :
    (Instr.requestArrival { store 1 0 false 0#40 4 with data := [0#8] }).wellFormed = false := by decide

theorem smoke_read_with_data : (Instr.requestArrival { ask .read 1 0 0#40 4 with data := [0#8] }).wellFormed = false := by
  decide

theorem smoke_sync_with_data : (Instr.requestArrival { ask .sync 1 0 0#40 0 with data := [0#8] }).wellFormed = false := by
  decide

theorem smoke_known_code_as_unknown : (Instr.unknownCommand 0x16#8).wellFormed = false := by decide

theorem smoke_cut_without_a_byte : (Instr.brokenFrame (.inRequest [])).wellFormed = false := by decide

theorem smoke_cut_after_the_whole_part : (Instr.brokenFrame (.inRequest [0x01#8, 0x02#8])).wellFormed = false := by decide

/-! ## Frames written out from Table 12-6 -/

theorem test_frame_set_item :
    decodeFrame [0x02#8, 0x02#8, 0x00#8, 0x00#8, 0x05#8, 0xDC#8] = some (.setItem 2#8 1500#32) := by decide

theorem test_frame_define_region :
    decodeFrame [0x08#8, 0x01#8, 0x01#8, 0x00#8, 0x00#8, 0x00#8, 0x00#8, 0x00#8, 0x00#8, 0x00#8, 0x02#8, 0x01#8,
      0x00#8, 0x11#8, 0x22#8, 0x33#8, 0x44#8, 0x55#8, 0x66#8, 0x77#8] =
    some (.defineRegion 1#8 0x0100000000#40 2#32 1#8 pat) := by decide

theorem test_frame_set_rule :
    decodeFrame [0x0B#8, 0x01#8, 0x00#8, 0x00#8, 0x00#8, 0x80#8, 0x00#8, 0x00#8, 0x00#8, 0x00#8, 0x80#8, 0x01#8,
      0x04#8, 0x00#8, 0x01#8, 0x00#8] =
    some (.setRule 1#8 0x8000#40 0x8001#40 4#8 0#8 1#8 0#8) := by decide

theorem test_frame_codes :
    decodeFrame [0x16#8] = some .takeNotice ∧ decodeFrame [0x11#8] = some .quiesce ∧
    decodeFrame [0x0C#8, 0x07#8] = some (.clearRule 7#8) ∧ decodeFrame [0x0F#8] = some (.unknownCommand 0x0F#8) ∧
    decodeFrame [0x02#8, 0x02#8] = none ∧ decodeFrame [] = none := by decide

/-! ## Single steps: the requester link -/

/-- The seventeenth request waits on the link (R135). -/
theorem test_arrival_on_a_full_queue :
    (after (.requestArrival (ask .sync 2 0 0#40 0)) (withIntake (List.replicate 16 (ask .sync 1 0 0#40 0)) online)).map
      (fun t => (t.rqp.intake.length, t.rqp.link)) = some (16, [ask .sync 2 0 0#40 0]) := by decide

/-- Sequence 11.1 at 12: bytes 12 to 15 now hold requester 2's bytes, requester 1 remains a contributor, the deadline is 28. -/
theorem test_take_merges :
    (after (.take 12) (withIntake [store 2 0 false 0x8000C#40 20]
      (withEntry 0 (gatheringEntry 0x80000 0 16 1) online))).bind (fun t => (t.lat.entries.get 0).map
        (fun e => (e.contributors.toNat, e.deadline, e.cells.cells.countP ByteCell.isWritten,
          e.cells.get 11, e.cells.get 12, t.nu.counters.merges))) =
    some (0x6, some 28, 32, .written 0x11#8, .written 0xAB#8, 1#32) := by decide

/-- Sequence 11.4 at 204: the Issue Queue becomes 1, 0, 2 and the predecessor set holds entry 0 alone. -/
theorem test_take_under_a_rule :
    (after (.take 204) (withIntake [store 4 0 false 0x200000#40 4]
      (withEntry 1 (gatheringEntry 0x200000 32 8 2) (withEntry 0 (gatheringEntry 0x100000 0 32 4) (withRule online))))).map
      (fun t => (t.lat.issueQueue,
        (t.lat.entries.get 2).bind (fun e => e.barrier.map (fun b => (b.predecessors.toNat, b.suppress, b.rule))))) =
    some ([1, 0, 2], some (1, true, 1)) := by decide

/-- A context of sequence 11.1: both parts of the piece's bytes have come. -/
def doneContext : Context :=
  { requester := 4, tag := 1, address := 0x80008#40, length := 2, age := 1,
    pieces := [{ span := { line := 0x80000, first := 8, count := 2, pos := 0 }, state := .done .ok }],
    buffer := [some 0x11#8, some 0xAB#8], worst := .ok }

/-- A state with that context awaiting its response. -/
def readDone : State :=
  { online with
    rqp := { online.rqp with tags := [(4, 1)] },
    rdp := { contexts := online.rdp.contexts.set 0 (some doneContext), ready := [0] } }

/-- The response carries the bytes and the pair leaves the tag-in-use set (R84, R134). -/
theorem test_read_response :
    (after .readResponse readDone).map (fun t => (t.out.responses, t.rqp.tags, t.rdp.contexts.get 0)) =
    some ([{ requester := 4, tag := 1, status := .ok, data := [0x11#8, 0xAB#8] }], [], none) := by decide

/-- A state whose SYNC of requester 4 awaits its response, with the flags of requesters 4 and 5 set. -/
def syncDone : State :=
  { online with
    rqp := { online.rqp with tags := [(4, 9)] },
    ord := { online.ord with
      sync := online.ord.sync.set 4 (some { tag := 9, waitSet := FinSet.empty 32 }),
      flags := ((FinSet.empty 16).insert 4).insert 5, syncReady := [4] } }

/-- WRITE_FAILED, and only the reader's flag is cleared (R65, R66). -/
theorem test_sync_response :
    (after .syncResponse syncDone).map (fun t => (t.out.responses, t.ord.flags.toNat)) =
    some ([{ requester := 4, tag := 9, status := .writeFailed, data := [] }], 0x20) := by decide

/-! ## Single steps: slots and the memory link -/

/-- Entry 0 of sequence 11.2, CLOSED. -/
def toFetch : State := withEntry 0 (closedEntry 0x80100 4 8 6 1) online

/-- Sequence 11.2 at 67: fill FETCH on slot 0 with deadline 2067. -/
theorem test_grant_fetch :
    (after (.grant 67) toFetch).map (fun t => (t.mp.slots.get 0, t.mp.sendOrder, t.lat.issueQueue,
      (t.lat.entries.get 0).map Entry.state)) =
    some (.busy (.fetchOf 0) 0x80100 false 2067, [.lineRead 0 0x80100], [], some .fetching) := by decide

/-- The Ahead List of sequence 11.5, with the level set to 3 and entry 5 at the head of the Issue Queue. -/
def toPattern : State :=
  let s := withEngine (.pacing 700) (withEntry 5 (closedEntry 0x100003000 8 8 3 1) online)
  { s with
    rsw := { s.rsw with
      ahead := [{ line := 0x100001000, region := 1, state := .written },
                { line := 0x100002000, region := 1, state := .written }] },
    mli := { s.mli with items := { s.mli.items with sweepUrgentLevel := 3#32 } } }

/-- Sequence 11.5 at 600: PATTERN fill, the record stands third, and the pacing ends at once. -/
theorem test_grant_pattern_makes_urgent :
    (after (.grant 600) toPattern).map (fun t => (t.rsw.engine, t.rsw.ahead.map (fun r => (r.line, r.state)),
      (t.lat.entries.get 5).map (fun e => (e.cells.get 7, e.cells.get 8, e.cells.get 17)))) =
    some (.ready 1 0x100000100,
      [(0x100001000, .written), (0x100002000, .written), (0x100003000, .inFlight)],
      some (.filled 0x77#8, .written 0x11#8, .filled 0x11#8)) := by decide

/-- A state with one prepared request. -/
def toSend : State :=
  let s := withSlot 3 (.busy (.readOf 0 0) 0x80040 false 900) online
  { s with mp := { s.mp with sendOrder := [.lineRead 3 0x80040] } }

theorem test_link_accepts :
    (after .memoryLinkAccept toSend).map (fun t => (t.mp.sendOrder, t.mp.slots.get 3, t.out.memory)) =
    some ([], .busy (.readOf 0 0) 0x80040 true 900, [.lineRead 3 0x80040]) := by decide

/-- Entry 0 of sequence 11.2 on slot 0, with WRT record 0. -/
def writingAoc : State :=
  let s := withSlot 0 (.busy (.writeOf 0) 0x80100 true 2080)
    (withEntry 0 { issuedAs .writing .fetch 0x80100 4 8 6 with held := [0] } online)
  { s with rqp := { s.rqp with
      tags := [(6, 40)], wrt := s.rqp.wrt.set 0 (some { requester := 6, tag := 40, outstanding := 1, worst := .ok }) } }

/-- Sequence 11.2 at 95: requester 6 is answered OK, FETCH_WRITES is 1, entry and slot are FREE. -/
theorem test_response_completes :
    (after (.memoryResponse 95 { slot := 0, status := 0#2, data := none }) writingAoc).map
      (fun t => (t.out.responses, t.rqp.tags)) = some ([{ requester := 6, tag := 40, status := .ok, data := [] }], []) ∧
    (after (.memoryResponse 95 { slot := 0, status := 0#2, data := none }) writingAoc).map
      (fun t => (t.nu.counters.fetchWrites, t.lat.entries.get 0, t.mp.slots.get 0)) = some (1#32, none, .free) := by decide

/-- Entries 0 and 2 of sequence 11.4. -/
def fetchingChain : State :=
  withSlot 1 (.busy (.fetchOf 0) 0x100000 true 2205)
    (withEntry 2
      { closedEntry 0x200000 0 4 4 3 with
        barrier := some { predecessors := (FinSet.empty 32).insert 0, failed := false, suppress := true, rule := 1 } }
      (withEntry 0 (issuedAs .fetching .fetch 0x100000 0 32 4) online))

/-- Sequence 11.4 at 215: WRITE_LOST, the flag of requester 4, and entry 2 awaits its discard. -/
theorem test_response_loses :
    (after (.memoryResponse 215 { slot := 1, status := 2#2, data := none }) fetchingChain).map
      (fun t => (t.nu.queue.map Notice.body, t.ord.flags.toNat, t.ord.discards,
        (t.lat.entries.get 2).bind (fun e => e.barrier.map (fun b => (b.predecessors.toNat, b.failed))))) =
    some ([.writeLost 0x100000 ((FinSet.empty 16).insert 4) .fetchFault], 0x10, [2], some (0, true)) := by decide

/-- Entry 6 of sequence 11.6 on slot 3, with WRT record 2. -/
def timingOut : State :=
  let s := withSlot 3 (.busy (.writeOf 6) 0x90000 true 1500)
    (withEntry 6 { issuedAs .writing .none 0x90000 0 64 5 with held := [2] } online)
  { s with rqp := { s.rqp with
      tags := [(5, 9)], wrt := s.rqp.wrt.set 2 (some { requester := 5, tag := 9, outstanding := 1, worst := .ok }) } }

/-- Sequence 11.6 at 1500. -/
theorem test_slot_deadline :
    (after (.slotDeadline 3) timingOut).map (fun t => (t.mp.slots.get 3, t.nu.queue.map Notice.body, t.ord.flags.toNat,
      t.out.responses, t.now)) =
    some (.orphaned .entryWrite 0x90000 true, [.writeUnconfirmed 0x90000 ((FinSet.empty 16).insert 5)], 0x20,
      [{ requester := 5, tag := 9, status := .timeout, data := [] }], 1500) := by decide

/-! ## Single steps: timers and the Ordering Unit -/

theorem test_gather_deadline :
    (after (.gatherDeadline 0) (withEntry 0 (gatheringEntry 0x80100 4 8 6) online)).map
      (fun t => (t.lat.issueQueue, (t.lat.entries.get 0).map Entry.state, t.now)) = some ([0], some .closed, 26) := by
  decide

/-- The engine finds the WRITTEN record at the watermark, removes it, passes the line and becomes READY for the next
(R104, sequence 11.5). -/
def pacingAtWritten : State :=
  let s := withEngine (.pacing 700) online
  { s with rsw := { s.rsw with ahead := [{ line := 0x100000100, region := 1, state := .written }] } }

theorem test_pacing_end :
    (after .pacingEnd pacingAtWritten).map (fun t => (t.rsw.engine, t.rsw.ahead, t.rsw.regions.get 1)) =
    some (.ready 1 0x100000140, [], .sweeping info1 0x100000140) := by decide

/-- Entries 2 and 3 of sequence 11.4 after the loss of entry 0. -/
def suppressed : State :=
  let s := withEntry 3
    { closedEntry 0x200000 4 4 4 4 with
      barrier := some { predecessors := (FinSet.empty 32).insert 2, failed := true, suppress := true, rule := 1 } }
    (withEntry 2
      { closedEntry 0x200000 0 4 4 3 with
        barrier := some { predecessors := FinSet.empty 32, failed := true, suppress := true, rule := 1 } } online)
  { s with ord := { s.ord with discards := [2] } }

/-- The discard of entry 2 releases entry 3 for its own discard (R60, sequence 11.4). -/
theorem test_discard_chain :
    (after .suppressionDiscard suppressed).map (fun t => (t.lat.issueQueue, t.ord.discards, t.nu.queue.map Notice.body)) =
    some ([3], [3], [.writeLost 0x200000 ((FinSet.empty 16).insert 4) (.suppressed 1)]) := by decide

/-- A FLUSH whose wait set has become empty after a loss. -/
def flushed : State := { online with mc := { online.mc with running := .flush (FinSet.empty 32) true } }

theorem test_flush_complete :
    (after .flushComplete flushed).map (fun t => (t.mc, t.nu.queue.map Notice.body)) =
    some ({ mode := .online, running := .none, last := some (.flush, .losses) }, [.commandDone .flush .losses]) := by decide

/-! ## Single steps: the management link -/

theorem test_get_part_ident : answered (.getItem 6#8) online = some [0#8, 0x03#8, 0xA7#8, 0x04#8, 0x16#8, 0x02#8] := by
  decide

theorem test_set_item_range :
    (after (.setItem 1#8 1024#32) online).map (fun t => (t.mli.items, t.out.answers.map Answer.status)) =
    some (online.mli.items, [.refusedArgument]) := by decide

theorem test_set_enables_drops_the_line :
    (after (.setItem 5#8 0x3FF#32) { online with nu := postToNu (.commandDone .flush .clean) online.nu }).map
      (fun t => (t.nu.enables, t.nu.line)) = some (0x3FF#11, false) := by decide

theorem test_read_status :
    answered .readStatus { withEntry 0 (gatheringEntry 0x80000 0 16 1) online with mli := { online.mli with brokenFrame := true } } =
    some [0#8, 1#8, 0#8, 0#8, 0#8, 0#8, 1#8, 0#8, 0#8, 0#8, 1#8, 0x03#8, 0xA7#8, 0x04#8, 0x16#8, 0x02#8] := by decide

theorem test_read_flags : answered .readFlags syncDone = some [0#8, 0x00#8, 0x30#8] := by decide

/-- A state with counts. -/
def counted : State := { online with nu := { online.nu with counters := { Counters.zero with merges := 3#32, noticesLost := 1#32 } } }

theorem test_read_counters :
    answered .readCounters counted =
    some ([0#8, 0#8, 0#8, 0#8, 3#8] ++ List.replicate 31 0#8 ++ [1#8]) := by decide

theorem test_clear_counters : (after .clearCounters counted).map (fun t => t.nu.counters) = some Counters.zero := by decide

/-- Sequence 11.6 at 1650: slot 3 ORPHANED with purpose ENTRY_WRITE and line W. -/
def orphaned3 : State := withSlot 3 (.orphaned .entryWrite 0x90000 true) (inMode .draining online)

theorem test_read_slots :
    (answered .readSlots orphaned3).map (fun b => (b.length, (b.drop 19).take 6)) =
    some (97, [0x22#8, 0x00#8, 0x00#8, 0x09#8, 0x00#8, 0x00#8]) := by decide

theorem test_define_region_present :
    (after (.defineRegion 1#8 0x0100000000#40 2#32 1#8 pat) (inMode .quiesced online)).map
      (fun t => (t.rsw.regions.get 1, t.out.answers.map Answer.status)) =
    some (.sweeping info1 0x100000100, [.refusedArgument]) := by decide

theorem test_define_region_sweep :
    (after (.defineRegion 2#8 0x0100010000#40 2#32 1#8 pat) (inMode .quiesced online)).map
      (fun t => (t.rsw.regions.get 2, t.rsw.engine)) =
    some (.sweeping { base := 0x100010000, size := 0x20000, pattern := pat, faults := 0#16 } 0x100010000, .idle) := by decide

theorem test_retire_region_online :
    (after (.retireRegion 1#8) online).map (fun t => (t.rsw.regions.get 1, t.out.answers.map Answer.status)) =
    some (.sweeping info1 0x100000100, [.refusedMode]) := by decide

theorem test_retire_region :
    (after (.retireRegion 1#8) (inMode .quiesced toPattern)).map (fun t => (t.rsw.regions.get 1, t.rsw.ahead)) =
    some (.absent, []) := by decide

theorem test_read_region :
    answered (.readRegion 1#8) toPattern =
    some [0#8, 1#8, 1#8, 0#8, 0#8, 0#8, 0#8, 0#8, 0#8, 0#8, 1#8, 0x00#8, 0x11#8, 0x22#8, 0x33#8, 0x44#8, 0x55#8, 0x66#8,
      0x77#8, 1#8, 0#8, 0#8, 1#8, 0#8, 0#8, 0#8, 2#8] := by decide

theorem test_set_rule :
    (after (.setRule 1#8 0x8000#40 0x8001#40 4#8 0#8 1#8 0#8) (inMode .offline online)).map (fun t => t.ord.rules.get 1) =
    some (some rule1) := by decide

theorem test_clear_rule :
    (after (.clearRule 1#8) (inMode .quiesced (withRule online))).map (fun t => t.ord.rules.get 1) = some none := by decide

theorem test_read_rule :
    answered (.readRule 1#8) (withRule online) =
    some [0#8, 1#8, 0#8, 0#8, 0#8, 0x80#8, 0x00#8, 0#8, 0#8, 0#8, 0x80#8, 0x01#8, 4#8, 0#8, 1#8, 0#8] := by decide

theorem test_go_online :
    (after .goOnline (inMode .offline online)).map (fun t => (t.mc.mode, t.rsw.engine)) =
    some (.online, .ready 1 0x100000100) := by decide

/-- Frame 2 of sequence 11.7. -/
theorem test_quiesce :
    (after .quiesce (withEngine (.pacing 9) online)).map (fun t => (t.mc, t.rsw.engine, t.nu.queue.map Notice.body)) =
    some ({ mode := .quiesced, running := .none, last := some (.quiesce, .done) }, .idle, [.commandDone .quiesce .done]) := by
  decide

/-- Frame 7 of sequence 11.7. -/
theorem test_resume :
    (after .resume (inMode .quiesced online)).map (fun t => (t.mc.mode, t.rsw.engine)) =
    some (.online, .ready 1 0x100000100) := by decide

theorem test_flush :
    (after .flush (withEntry 4 (gatheringEntry 0x80000 0 16 1) toFetch)).map (fun t => (t.mc.running, t.lat.issueQueue)) =
    some (.flush (((FinSet.empty 32).insert 0).insert 4) false, [0, 4]) := by decide

theorem test_reset_bridge :
    (after .resetBridge timingOut).map (fun t => (t.mp.slots.get 3, t.out.responses.map Response.status, t.mc.mode, t.nu.queue)) =
    some (.orphaned .entryWrite 0x90000 true, [.aborted], .offline, []) := by decide

/-- Sequence 11.6 at 1700. -/
theorem test_reclaim_slots :
    answered .reclaimSlots orphaned3 = some [0#8, 1#8] ∧
    (after .reclaimSlots orphaned3).map (fun t => t.mp.slots.get 3) = some .free := by decide

/-- A state with two notices. -/
def twoNotices : State :=
  { online with nu := postToNu .memoryStalled (postToNu (.strayResponse 3) online.nu) }

theorem test_take_notice :
    answered .takeNotice twoNotices = some ([0#8, 0#8, 0#8, 4#8, 3#8] ++ List.replicate 15 0#8) ∧
    (after .takeNotice twoNotices).map (fun t => t.nu.queue.length) = some 2 := by decide

/-- The example of R179. -/
theorem test_notice_record :
    answerBytes
      { status := .done,
        fields := .notice { seq := 5#16, body := .writeLost 0x100000 ((FinSet.empty 16).insert 4) .fetchFault } } =
    [0#8, 0#8, 5#8, 0#8, 0#8, 0#8, 0x10#8, 0#8, 0#8, 0#8, 0x10#8, 0#8] ++ List.replicate 8 0#8 := by decide

/-- The end of the whole frame of that TAKE_NOTICE. -/
def takingNotice : State := { twoNotices with mli := { twoNotices.mli with frame := .answering [0xFF#8, 0#8] true } }

theorem test_notice_removed :
    (after .noticeRemoved takingNotice).map (fun t => (t.nu.queue, t.nu.line)) =
    some ([{ seq := 1#16, body := .memoryStalled }], true) := by decide

theorem test_unknown_command : answered (.unknownCommand 0x0F#8) online = some [6#8] := by decide

/-- A cut in the answer leaves the record; after the whole answer there is nothing to cut (R161, R167). -/
theorem test_broken_frame :
    (after (.brokenFrame (.inAnswer 1)) takingNotice).map (fun t => (t.mli.brokenFrame, t.nu.queue.length, t.mli.frame)) =
      some (true, 2, .waiting) ∧
    after (.brokenFrame (.inAnswer 2)) takingNotice = some takingNotice := by decide

/-- `s` with a frame that overlaps the power-on reset. -/
def overlapped (s : State) : State := setFrame .ignoring s

/-- A frame overlapping the power-on reset has no effect and its cut sets no mark (R175). -/
theorem test_ignored_frames :
    after .takeNotice (overlapped twoNotices) = some twoNotices ∧
    after (.brokenFrame (.inRequest [0x02#8])) (overlapped twoNotices) = some twoNotices ∧
    (after (.brokenFrame .byReset) { online with held := true }).map (fun t => t.mli.frame) = some .ignoring ∧
    (after .resetReleased { overlapped online with held := true }).map (fun t => t.mli.frame) = some .ignoring := by decide

/-- The bytes on data out of a GET_ITEM frame of GATHER_TIMEOUT: filler in the two request bytes and the turnaround byte, DONE with the
value 16, and filler again (R166, R170, R178). -/
theorem test_data_out :
    (after (.getItem 1#8) online).map (fun t => (List.range 11).map (fun k => dataOut 2 k t)) =
    some [0xFF#8, 0xFF#8, 0xFF#8, 0#8, 0#8, 0#8, 0#8, 0#8, 16#8, 0xFF#8, 0xFF#8] := by decide

/-- A READ_STATUS right after a FLUSH with nothing to wait for finds it ended CLEAN (R67, R174). -/
theorem test_flush_ends_before_the_next_frame :
    (((after .flush online).bind (after .readStatus)).bind (fun t => t.out.answers.getLast?)).map
      (fun a => (answerBytes a).take 5) = some [0#8, 1#8, 0#8, 2#8, 3#8] := by decide

theorem test_power_on_reset :
    (after .powerOnReset timingOut).map (fun t => (t.held, t.mp, t.rsw, t.rqp.wrt)) =
    some (true, Mp.reset, Rsw.reset, Table.fill 16 none) := by decide

theorem test_reset_released :
    (after .resetReleased { online with held := true }).map (fun t => (t.held, t.mc.mode)) = some (false, .offline) := by
  decide

/-- A FLUSH that waits for entry 0. -/
def flushing : State :=
  let s := withEntry 0 (closedEntry 0x80100 4 8 6 1) online
  { s with mc := { s.mc with running := .flush ((FinSet.empty 32).insert 0) false } }

/-! ## Witnesses: a concrete state and operands that meet the hypotheses of each statement, clause by clause -/

theorem witness_StepRunsTheFrontCommand : State.reset.pending = [] := by decide

theorem witness_PowerOnResetClearsAndHolds : ({ online with held := true }).held = true ∧ online.held = false := by decide

theorem witness_PowerOnResetClearsAndHolds_held :
    Instr.flush ≠ .powerOnReset ∧ Instr.flush ≠ .resetReleased ∧
    Instr.requestArrival (ask .sync 1 0 0#40 0) ≠ .powerOnReset ∧
    Instr.requestArrival (ask .sync 1 0 0#40 0) ≠ .resetReleased ∧
    Instr.brokenFrame .byReset ≠ .powerOnReset ∧ Instr.brokenFrame .byReset ≠ .resetReleased ∧
    Instr.flush ≠ .brokenFrame .byReset ∧ online.mli.frame ≠ .ignoring := by decide

/-- Sixteen requests of a requester in the Intake Queue. -/
def fullIntake : State := withIntake (List.replicate 16 (ask .sync 1 0 0#40 0)) (inMode .draining online)

theorem witness_ArrivalJoinsTheIntakeQueue :
    fullIntake.held = false ∧ fullIntake.rqp.intake.length ≤ 16 ∧ fullIntake.rqp.intake ≠ [] ∧ fullIntake.mc.mode ≠ .online ∧
    online.held = false ∧ online.rqp.intake.length ≤ 16 := by decide

theorem witness_ArrivalJoinsTheIntakeQueue_empty :
    online.rqp.intake = [] ∧ online.rqp.link ++ [store 1 5 true 0x80000#40 16] = store 1 5 true 0x80000#40 16 :: [] ∧
    judge online (store 1 5 true 0x80000#40 16) = .passes ∧ (store 1 5 true 0x80000#40 16).kind = .write := by decide

/-- A SYNC and a READ in the Intake Queue. -/
def twoAsked : State := withIntake [ask .sync 1 0 0#40 0, ask .read 2 1 0x80000#40 64] online

theorem witness_TakeOutsideOnline :
    twoAsked.held = false ∧
    twoAsked.rqp.intake ++ twoAsked.rqp.link = ask .sync 1 0 0#40 0 :: [ask .read 2 1 0x80000#40 64] ∧
    (inMode .offline twoAsked).mc.mode = .offline ∧ (inMode .draining twoAsked).mc.mode = .draining ∧
    (inMode .quiesced twoAsked).mc.mode = .quiesced := by decide

/-- `online` with the tag (1, 7) in use. -/
def tagged : State := { online with rqp := { online.rqp with tags := [(1, 7)] } }

theorem witness_RefusedHeadIsAnsweredAndReported :
    online.held = false ∧ online.mc.mode = .online ∧
    (withIntake [ask .unknown 1 0 0#40 0] online).rqp.intake ++ online.rqp.link = ask .unknown 1 0 0#40 0 :: [] ∧
    (ask .unknown 1 0 0#40 0).kind = .unknown := by decide

theorem witness_RefusedHeadIsAnsweredAndReported_length :
    ((ask .read 1 0 0#40 0).kind = .read ∧ (ask .read 1 0 0#40 0).length.val = 0) ∧
    ((ask .write 1 0 0#40 65).kind = .write ∧ 64 < (ask .write 1 0 0#40 65).length.val) := by decide

theorem witness_RefusedHeadIsAnsweredAndReported_tag :
    (ask .sync 1 7 0#40 0).kind = .sync ∧
    ((ask .sync 1 7 0#40 0).requester, (ask .sync 1 7 0#40 0).tag) ∈ tagged.rqp.tags ∧
    (ask .read 1 7 0#40 64).kind = .read ∧ 0 < (ask .read 1 7 0#40 64).length.val ∧
    (ask .read 1 7 0#40 64).length.val ≤ 64 := by decide

theorem witness_RefusedHeadIsAnsweredAndReported_beyond :
    (ask .read 1 0 0xFFFFFFFFFF#40 2).kind = .read ∧
    ((ask .read 1 0 0xFFFFFFFFFF#40 2).requester, (ask .read 1 0 0xFFFFFFFFFF#40 2).tag) ∉ online.rqp.tags ∧
    2 ^ 40 < (ask .read 1 0 0xFFFFFFFFFF#40 2).address.toNat + (ask .read 1 0 0xFFFFFFFFFF#40 2).length.val := by decide

theorem witness_RefusedHeadIsAnsweredAndReported_region :
    (ask .read 1 0 0xFFFFFFFFFF#40 1).address.toNat + (ask .read 1 0 0xFFFFFFFFFF#40 1).length.val ≤ 2 ^ 40 ∧
    ∃ p ∈ requestSpans (ask .read 1 0 0xFFFFFFFFFF#40 1), ∀ k, regionHolds p.line (online.rsw.regions.get k) = false := by
  decide

/-- The piece of the writes below. -/
def piece16 : Span := { line := 0x80000, first := 0, count := 16, pos := 0 }

/-- A posted WRITE at the head of the Intake Queue, with entry 0 in use for another line. -/
def opening : State :=
  withIntake [store 1 5 false 0x80000#40 16] (withEntry 0 (closedEntry 0x80040 0 8 2 1) online)

theorem witness_PostedWriteOpensAnEntry :
    opening.held = false ∧ opening.rqp.intake ++ opening.rqp.link = [store 1 5 false 0x80000#40 16] ∧
    judge opening (store 1 5 false 0x80000#40 16) = .passes ∧ ruleFor opening.ord (store 1 5 false 0x80000#40 16) = none ∧
    requestSpans (store 1 5 false 0x80000#40 16) = [piece16] ∧ gatheringOf opening.lat piece16.line = none ∧
    opening.lat.entries.get 1 = none ∧ (∀ j : Fin 32, j < 1 → (opening.lat.entries.get j).isSome = true) := by decide

/-- A whole line, posted and AOC, at the head. -/
theorem witness_PostedWriteOpensAnEntry_whole :
    (∀ aoc, judge (withIntake [store 1 5 aoc 0x80000#40 64] online) (store 1 5 aoc 0x80000#40 64) = .passes) ∧
    requestSpans (store 1 5 false 0x80000#40 64) = [{ line := 0x80000, first := 0, count := 64, pos := 0 }] ∧
    requestSpans (store 1 5 true 0x80000#40 64) = [{ line := 0x80000, first := 0, count := 64, pos := 0 }] ∧
    gatheringOf online.lat 0x80000 = none ∧ lowestFreeEntry online.lat = some 0 ∧ online.rqp.wrt.get 0 = none ∧
    (store 1 5 true 0x80000#40 64).length.val = 64 := by decide

/-- The same WRITE with a GATHERING entry of its line. -/
def merging : State :=
  withIntake [store 1 5 false 0x80000#40 16] (withEntry 0 (gatheringEntry 0x80000 16 48 2) online)

theorem witness_PostedWriteMergesIntoAnEntry :
    merging.held = false ∧ merging.rqp.intake ++ merging.rqp.link = [store 1 5 false 0x80000#40 16] ∧
    judge merging (store 1 5 false 0x80000#40 16) = .passes ∧ ruleFor merging.ord (store 1 5 false 0x80000#40 16) = none ∧
    requestSpans (store 1 5 false 0x80000#40 16) = [piece16] ∧ gatheringOf merging.lat piece16.line = some 0 ∧
    merging.lat.entries.get 0 = some (gatheringEntry 0x80000 16 48 2) := by decide

/-- A table without a FREE entry: entry 7 has the oldest last merge time of the GATHERING ones. -/
def fullLat (mark : Option (Fin 32)) : Machine.Lat :=
  { entries := ((Table.fill 32 (some (closedEntry 0x80100 0 8 2 1))).set 7 (some (gatheringEntry 0x80200 0 8 2))).set 9
      (some { gatheringEntry 0x80300 0 8 2 with lastMerge := 11 }),
    issueQueue := [], evictMark := mark }

/-- An AOC WRITE over a GATHERING entry whose held list has `n` indices, one of them of record 0. -/
def mergingAoc (n : Nat) : State :=
  withIntake [store 1 5 true 0x80000#40 16]
    (withEntry 0 { gatheringEntry 0x80000 16 8 2 with held := List.replicate n 0 } online)

theorem witness_PostedWriteMergesIntoAnEntry_aoc :
    (∀ n ∈ [3, 4], judge (mergingAoc n) (store 1 5 true 0x80000#40 16) = .passes ∧
      gatheringOf (mergingAoc n).lat piece16.line = some 0 ∧
      (mergingAoc n).lat.entries.get 0 = some { gatheringEntry 0x80000 16 8 2 with held := List.replicate n 0 } ∧
      lowestFreeWrt (mergingAoc n).rqp = some 0 ∧ lowestFreeEntry (mergingAoc n).lat = some 1) ∧
    (List.replicate 3 (0 : Fin 16)).length < 4 ∧ 4 ≤ (List.replicate 4 (0 : Fin 16)).length ∧
    lowestFreeEntry (fullLat none) = none ∧ requestSpans (store 1 5 true 0x80000#40 16) = [piece16] := by decide

theorem witness_PostedWriteMergesIntoAnEntry_law : GatherLaw (mergingAoc 4) := by constructor <;> decide

/-- This merge fills the byte set; one byte less does not. -/
theorem witness_PostedWriteMergesIntoAnEntry_full :
    cellsFull (writeSpan (gatheringEntry 0x80000 16 48 2).cells piece16 (List.replicate 16 0xAB#8)) = true ∧
    cellsFull (writeSpan (gatheringEntry 0x80000 17 47 2).cells piece16 (List.replicate 16 0xAB#8)) = false := by decide

/-- An AOC WRITE at the head, with WRT record 0 in use. -/
def acknowledged : State :=
  let s := withIntake [store 1 5 true 0x80000#40 16] online
  { s with rqp := { s.rqp with
      wrt := s.rqp.wrt.set 0 (some { requester := 2, tag := 3, outstanding := 1, worst := .ok }), tags := [(2, 3)] } }

theorem witness_AcknowledgedWriteOpensARecord :
    acknowledged.held = false ∧ acknowledged.rqp.intake ++ acknowledged.rqp.link = [store 1 5 true 0x80000#40 16] ∧
    judge acknowledged (store 1 5 true 0x80000#40 16) = .passes ∧
    ruleFor acknowledged.ord (store 1 5 true 0x80000#40 16) = none ∧
    requestSpans (store 1 5 true 0x80000#40 16) = [piece16] ∧ gatheringOf acknowledged.lat piece16.line = none ∧
    lowestFreeEntry acknowledged.lat = some 0 ∧ acknowledged.rqp.wrt.get 1 = none ∧
    (∀ v : Fin 16, v < 1 → (acknowledged.rqp.wrt.get v).isSome = true) := by decide

/-- A WRITE over the end of a line at the head, with entry 0 in use for another line. -/
def crossing (aoc : Bool) : State :=
  withIntake [store 1 5 aoc 0x8003F#40 64] (withEntry 0 (closedEntry 0x80100 0 8 2 1) online)

theorem witness_TwoPieceWriteOpensTwoEntries :
    (crossing true).held = false ∧ (crossing true).rqp.intake ++ (crossing true).rqp.link = [store 1 5 true 0x8003F#40 64] ∧
    judge (crossing true) (store 1 5 true 0x8003F#40 64) = .passes ∧
    ruleFor (crossing true).ord (store 1 5 true 0x8003F#40 64) = none ∧
    requestSpans (store 1 5 true 0x8003F#40 64) =
      [{ line := 0x80000, first := 63, count := 1, pos := 0 }, { line := 0x80040, first := 0, count := 63, pos := 1 }] ∧
    gatheringOf (crossing true).lat 0x80000 = none ∧ gatheringOf (crossing true).lat 0x80040 = none ∧
    (crossing true).lat.entries.get 1 = none ∧ (crossing true).lat.entries.get 2 = none ∧
    (∀ k : Fin 32, k < 2 → k ≠ 1 → ((crossing true).lat.entries.get k).isSome = true) ∧
    lowestFreeWrt (crossing true).rqp = some 0 := by decide

theorem witness_TwoPieceWriteOpensTwoEntries_posted :
    judge (crossing false) (store 1 5 false 0x8003F#40 64) = .passes ∧ (store 1 5 false 0x8003F#40 64).aoc = false := by decide

/-- The same WRITE, AOC or posted, with a GATHERING entry of its lower line that holds all bytes but the last and `n` indices, and
none of its upper line. -/
def crossingInto (aoc : Bool) (n : Nat) : State :=
  withEntry 3 { gatheringEntry 0x80000 0 63 2 with held := List.replicate n 0 } (crossing aoc)

/-- The lower piece merges and fills the byte set, the upper one opens entry 1. -/
theorem witness_TwoPieceWriteOpensTwoEntries_mixed :
    (∀ aoc, judge (crossingInto aoc 3) (store 1 5 aoc 0x8003F#40 64) = .passes ∧
      gatheringOf (crossingInto aoc 3).lat 0x80000 = some 3 ∧ gatheringOf (crossingInto aoc 3).lat 0x80040 = none) ∧
    (crossingInto true 3).lat.entries.get 1 = none ∧
    (∀ k : Fin 32, k < 1 → k ≠ 3 → ((crossingInto true 3).lat.entries.get k).isSome = true) ∧
    lowestFreeWrt (crossingInto true 3).rqp = some 0 ∧
    (crossingInto true 3).lat.entries.get 3 = some { gatheringEntry 0x80000 0 63 2 with held := [0, 0, 0] } ∧
    cellsFull (writeSpan (gatheringEntry 0x80000 0 63 2).cells { line := 0x80000, first := 63, count := 1, pos := 0 }
      (List.replicate 64 0xAB#8)) = true := by decide

/-- Both lines have GATHERING entries. -/
theorem witness_TwoPieceWriteOpensTwoEntries_merges :
    gatheringOf (withEntry 4 (gatheringEntry 0x80040 0 8 2) (crossingInto true 3)).lat 0x80000 = some 3 ∧
    gatheringOf (withEntry 4 (gatheringEntry 0x80040 0 8 2) (crossingInto true 3)).lat 0x80040 = some 4 ∧
    (gatheringEntry 0x80040 0 8 2).held.length < 4 ∧
    cellsFull (writeSpan (gatheringEntry 0x80040 0 8 2).cells { line := 0x80040, first := 0, count := 63, pos := 1 }
      (List.replicate 64 0xAB#8)) = false := by decide

/-- A full held list on the lower line: entry 3 closes for HELD_LIMIT, and both pieces open entries (R14). -/
theorem witness_TwoPieceWriteOpensTwoEntries_held_limit :
    GatherLaw (crossingInto true 4) ∧ judge (crossingInto true 4) (store 1 5 true 0x8003F#40 64) = .passes ∧
    ([0x80000, 0x80040].filterMap (gatheringOf (crossingInto true 4).lat)).filter
      (fun k => entryIs (fun e => decide (4 ≤ e.held.length)) ((crossingInto true 4).lat.entries.get k)) = [3] := by
  refine ⟨?_, by decide⟩
  constructor <;> decide

/-- A posted WRITE at the head over that table. -/
def evicting (mark : Option (Fin 32)) : State :=
  { withIntake [store 1 5 false 0x80000#40 16] online with lat := fullLat mark }

theorem witness_HeadWithoutResourcesWaits :
    (evicting none).held = false ∧ (evicting none).rqp.intake ++ (evicting none).rqp.link = store 1 5 false 0x80000#40 16 :: [] ∧
    judge (evicting none) (store 1 5 false 0x80000#40 16) = .passes ∧
    ruleFor (evicting none).ord (store 1 5 false 0x80000#40 16) = none ∧ gatheringOf (evicting none).lat 0x80000 = none ∧
    (∀ i, ((evicting none).lat.entries.get i).isSome = true) ∧ (evicting (some 3)).lat.evictMark.isSome = true ∧
    (evicting none).lat.evictMark = none ∧ (evicting none).lat.entries.get 7 = some (gatheringEntry 0x80200 0 8 2) := by decide

theorem witness_HeadWithoutResourcesWaits_oldest :
    ∀ j : Fin 32, ((fullLat none).entries.get j).all (fun x => decide (x.state = .gathering →
      (gatheringEntry 0x80200 0 8 2).lastMerge < x.lastMerge ∨
      ((gatheringEntry 0x80200 0 8 2).lastMerge = x.lastMerge ∧ 7 ≤ j))) = true := by decide

theorem witness_HeadWithoutResourcesWaits_read_and_aoc :
    judge online (ask .read 4 1 0x80008#40 12) = .passes ∧
    (∀ c : Fin 16, ((Table.fill 16 (some doneContext)).get c).isSome = true) ∧
    judge online (store 1 5 true 0x80000#40 16) = .passes ∧ (store 1 5 true 0x80000#40 16).aoc = true ∧
    (∀ w : Fin 16, ((Table.fill 16 (some (⟨2, 3, 1, .ok⟩ : WrtRecord))).get w).isSome = true) := by decide

/-- A WRITE of two pieces whose lower line has a GATHERING entry, with one entry FREE, none, and no GATHERING entry but its target. -/
def shortOfOne (aoc : Bool) (free : Option Entry) : State :=
  { withIntake [store 1 5 aoc 0x8003F#40 4] online with
    lat := { fullLat none with
      entries := ((fullLat none).entries.set 3 (some (gatheringEntry 0x80000 0 8 2))).set 5 free } }

theorem witness_HeadWithoutResourcesWaits_two :
    (∀ aoc, judge (shortOfOne aoc none) (store 1 5 aoc 0x8003F#40 4) = .passes) ∧
    (requestSpans (store 1 5 true 0x8003F#40 4)).filterMap (fun p => gatheringOf (shortOfOne true none).lat p.line) = [3] ∧
    [3].filter (fun i : Fin 32 => entryIs (fun e => decide (4 ≤ e.held.length)) ((shortOfOne true none).lat.entries.get i)) = [] ∧
    (requestSpans (store 1 5 true 0x8003F#40 4)).length = 2 ∧
    (List.finRange 32).countP (fun i => ((shortOfOne true none).lat.entries.get i).isNone) = 1 ∧
    (List.finRange 32).countP (fun i => ((shortOfOne true (some (closedEntry 0x80100 0 8 2 1))).lat.entries.get i).isNone) = 0 := by
  decide

/-- The only GATHERING entry is the head's own merge target, so that nothing closes. -/
theorem witness_HeadWithoutResourcesWaits_no_candidate :
    (after (.take 12)
      { withIntake [store 1 5 false 0x8003F#40 4] online with
        lat := { fullLat none with entries :=
          (Table.fill 32 (some (closedEntry 0x80100 0 8 2 1))).set 3 (some (gatheringEntry 0x80000 0 8 2)) } }).map
      (fun t => (t.lat.issueQueue, t.lat.evictMark, t.rqp.intake.length)) = some ([], none, 1) := by decide

/-- A release WRITE needs a FREE entry for each piece, whatever its line has. -/
theorem witness_HeadWithoutResourcesWaits_release :
    judge { withIntake [store 4 0 false 0x200000#40 4] (withRule online) with lat := fullLat none }
      (store 4 0 false 0x200000#40 4) = .passes ∧
    ruleFor (withRule online).ord (store 4 0 false 0x200000#40 4) = some 1 ∧
    (List.finRange 32).countP (fun i => ((fullLat none).entries.get i).isNone) <
      (requestSpans (store 4 0 false 0x200000#40 4)).length := by decide

/-- A full held list with the table law, behind another request. -/
theorem witness_HeadWithoutResourcesWaits_held_limit :
    GatherLaw (mergingAoc 4) ∧
    [(0 : Fin 32)].filter (fun i => entryIs (fun e => decide (4 ≤ e.held.length)) ((mergingAoc 4).lat.entries.get i)) = [0] :=
  ⟨witness_PostedWriteMergesIntoAnEntry_law, by decide⟩

/-- A refused head leaves, and the posted WRITE behind it becomes the head and evicts entry 7 (R136, R15). -/
theorem witness_RefusedHeadIsAnsweredAndReported_next :
    (after (.take 12)
      { withIntake [ask .unknown 1 0 0#40 0, store 1 5 false 0x80000#40 16] online with lat := fullLat none }).map
      (fun t => (t.rqp.intake.length, t.lat.issueQueue, t.lat.evictMark)) = some (1, [7], some 7) := by decide

/-- The release WRITE of sequence 11.4 at the head. -/
def releasing : State :=
  withIntake [store 4 0 false 0x200000#40 4]
    (withEntry 1 (gatheringEntry 0x200000 32 8 2) (withEntry 0 (gatheringEntry 0x100000 0 32 4) (withRule online)))

theorem witness_ReleaseWriteMakesABarrierEntry :
    releasing.held = false ∧ releasing.rqp.intake ++ releasing.rqp.link = [store 4 0 false 0x200000#40 4] ∧
    judge releasing (store 4 0 false 0x200000#40 4) = .passes ∧
    ruleFor releasing.ord (store 4 0 false 0x200000#40 4) = some 1 ∧ releasing.ord.rules.get 1 = some rule1 ∧
    (requestSpans (store 4 0 false 0x200000#40 4)).filterMap (fun p => gatheringOf releasing.lat p.line) = [1] ∧
    ((List.finRange 32).filter (fun j => (releasing.lat.entries.get j).isNone)).take
      (requestSpans (store 4 0 false 0x200000#40 4)).length = [2] := by decide

/-- An AOC WRITE of two pieces under the rule, its lower line with a GATHERING entry. -/
def releasingTwo : State :=
  withIntake [store 4 0 true 0x20003F#40 4] (withEntry 1 (gatheringEntry 0x200000 32 8 2) (withRule online))

theorem witness_ReleaseWriteMakesABarrierEntry_two :
    judge releasingTwo (store 4 0 true 0x20003F#40 4) = .passes ∧
    ruleFor releasingTwo.ord (store 4 0 true 0x20003F#40 4) = some 1 ∧
    (requestSpans (store 4 0 true 0x20003F#40 4)).map Span.line = [0x200000, 0x200040] ∧
    (requestSpans (store 4 0 true 0x20003F#40 4)).filterMap (fun p => gatheringOf releasingTwo.lat p.line) = [1] ∧
    ((List.finRange 32).filter (fun j => (releasingTwo.lat.entries.get j).isNone)).take 2 = [0, 2] ∧
    lowestFreeWrt releasingTwo.rqp = some 0 := by decide

theorem witness_ReleaseWriteMakesABarrierEntry_two_law : GatherLaw releasingTwo := by
  constructor <;> decide

theorem witness_ReleaseWriteMakesABarrierEntry_law : GatherLaw releasing := by
  constructor <;> decide

/-- A SYNC of requester 1 at the head. -/
def syncing : State := withIntake [ask .sync 1 5 0#40 0] (withEntry 0 (gatheringEntry 0x80000 0 16 1) online)

theorem witness_SyncWaitsForItsRequestersEntries :
    syncing.held = false ∧ syncing.rqp.intake ++ syncing.rqp.link = [ask .sync 1 5 0#40 0] ∧
    judge syncing (ask .sync 1 5 0#40 0) = .passes ∧ syncing.ord.sync.get 1 = none := by decide

/-- The same with another SYNC of requester 1 outstanding. -/
def syncingTwice : State :=
  { syncing with ord := { syncing.ord with
      sync := syncing.ord.sync.set 1 (some { tag := 6, waitSet := (FinSet.empty 32).insert 0 }) } }

theorem witness_SyncWaitsForItsRequestersEntries_busy :
    syncingTwice.rqp.intake ++ syncingTwice.rqp.link = [ask .sync 1 5 0#40 0] ∧
    judge syncingTwice (ask .sync 1 5 0#40 0) = .passes ∧ (syncingTwice.ord.sync.get 1).isSome = true := by decide

/-- A READ of twelve bytes at the head, over an entry that covers it. -/
def reading : State := withIntake [ask .read 4 1 0x80008#40 12] (withEntry 0 (gatheringEntry 0x80000 0 32 1) online)

/-- The piece of that READ. -/
def piece12 : Span := { line := 0x80000, first := 8, count := 12, pos := 0 }

theorem witness_ReadTakeResolvesItsPieces :
    reading.held = false ∧ reading.rqp.intake ++ reading.rqp.link = [ask .read 4 1 0x80008#40 12] ∧
    judge reading (ask .read 4 1 0x80008#40 12) = .passes ∧ requestSpans (ask .read 4 1 0x80008#40 12) = [piece12] ∧
    lowestFreeContext reading.rdp = some 0 ∧ covered reading piece12 = true := by decide

/-- READs of an uninitialised line of region 1, and of a line of region 0 that no entry has. -/
theorem witness_ReadTakeResolvesItsPieces_others :
    judge online (ask .read 4 1 0x100004008#40 8) = .passes ∧
    requestSpans (ask .read 4 1 0x100004008#40 8) = [{ line := 0x100004000, first := 8, count := 8, pos := 0 }] ∧
    covered online { line := 0x100004000, first := 8, count := 8, pos := 0 } = false ∧
    uninitialisedPattern online.rsw 0x100004000 = some pat ∧
    covered online piece12 = false ∧ uninitialisedPattern online.rsw piece12.line = none := by decide

theorem witness_ReadResponseAnswersAContext :
    readDone.held = false ∧ readDone.rdp.ready = 0 :: [] ∧ readDone.rdp.contexts.get 0 = some doneContext ∧
    online.rdp.ready = [] := by decide

theorem witness_SyncResponseReportsTheFailureFlag :
    syncDone.held = false ∧ syncDone.ord.syncReady = 4 :: [] ∧
    syncDone.ord.sync.get 4 = some { tag := 9, waitSet := FinSet.empty 32 } ∧ online.ord.syncReady = [] := by decide

/-- An engine READY at region 1's watermark. -/
def sweepReady : State := withEngine (.ready 1 0x100000100) online

theorem witness_GrantServesTheSweep :
    sweepReady.held = false ∧ lowestFreeSlot sweepReady.mp = some 0 ∧ grantedClass sweepReady = some .sweep ∧
    sweepReady.rsw.engine = .ready 1 0x100000100 ∧ (sweepReady.rsw.regions.get 1).info = some info1 ∧
    grantedClass online = none := by decide

theorem witness_GrantIssuesTheOldestEligibleEntry :
    toFetch.held = false ∧ lowestFreeSlot toFetch.mp = some 0 ∧ grantedClass toFetch = some .write ∧
    firstEligible toFetch = some 0 ∧ toFetch.lat.entries.get 0 = some (closedEntry 0x80100 4 8 6 1) ∧
    cellsFull (closedEntry 0x80100 4 8 6 1).cells = false ∧ uninitialisedPattern toFetch.rsw 0x80100 = none := by decide

/-- A full entry, and one on an uninitialised line with the engine IDLE. -/
theorem witness_GrantIssuesTheOldestEligibleEntry_others :
    grantedClass (withEntry 0 (closedEntry 0x80100 0 64 6 1) online) = some .write ∧
    cellsFull (closedEntry 0x80100 0 64 6 1).cells = true ∧
    grantedClass (withEntry 0 (closedEntry 0x100003000 0 63 6 1) online) = some .write ∧
    cellsFull (closedEntry 0x100003000 0 63 6 1).cells = false ∧
    uninitialisedPattern online.rsw 0x100003000 = some pat ∧ online.rsw.engine = .idle := by decide

/-- Engines READY for the issued line and for another, and two that pace, below SWEEP_URGENT_LEVEL and at it once the record is in. -/
theorem witness_GrantIssuesTheOldestEligibleEntry_engines :
    grantedClass (withEngine (.ready 1 0x80100) toFetch) = some .write ∧
    (withEngine (.ready 1 0x80100) toFetch).rsw.engine = .ready 1 0x80100 ∧
    (∀ k ∈ List.finRange 8, (withEngine (.ready 1 0x80140) toFetch).rsw.engine ≠ .ready k 0x80100) ∧
    grantedClass (withEngine (.pacing 700) toFetch) = some .write ∧
    (withEngine (.pacing 700) toFetch).rsw.ahead.length < (withEngine (.pacing 700) toFetch).mli.items.sweepUrgentLevel.toNat ∧
    grantedClass toPattern = some .write ∧ toPattern.rsw.engine = .pacing 700 ∧
    toPattern.mli.items.sweepUrgentLevel.toNat ≤ (insertAhead { line := 0x100003000, region := 1, state := .inFlight }
      toPattern.rsw.ahead).length := by decide

/-- A context whose piece waits for memory. -/
def waitingContext : Context :=
  { requester := 9, tag := 3, address := 0x80008#40, length := 12, age := 1,
    pieces := [{ span := piece12, state := .waiting }], buffer := List.replicate 12 none, worst := .ok }

/-- That context, with the turn at READ. -/
def waitingRead : State :=
  { online with
    rdp := { contexts := online.rdp.contexts.set 0 (some waitingContext), ready := [] },
    mp := { online.mp with turn := .read } }

theorem witness_GrantServesTheOldestWaitingPiece :
    waitingRead.held = false ∧ lowestFreeSlot waitingRead.mp = some 0 ∧ grantedClass waitingRead = some .read ∧
    readCandidates waitingRead = [] ++ [(0, 0, piece12)] ∧ resolve waitingRead piece12 = .memory := by decide

/-- The piece of an older context on the line of an entry that covers it. -/
def forwardedPiece : Span := { line := 0x80040, first := 0, count := 8, pos := 0 }

/-- An older context whose piece is forwarded stands before the one that needs memory. -/
def waitingTwo : State :=
  let s := withEntry 0 (gatheringEntry 0x80040 0 8 1) (withEngine (.ready 1 0x100000100) waitingRead)
  { s with rdp := { s.rdp with contexts := s.rdp.contexts.set 5 (some { waitingContext with
      age := 0, pieces := [{ span := forwardedPiece, state := .waiting }], buffer := List.replicate 8 none }) } }

theorem witness_GrantServesTheOldestWaitingPiece_both :
    waitingTwo.held = false ∧ lowestFreeSlot waitingTwo.mp = some 0 ∧ grantedClass waitingTwo = some .read ∧
    readCandidates waitingTwo = [(5, 0, forwardedPiece)] ++ [(0, 0, piece12)] ∧
    resolve waitingTwo forwardedPiece ≠ .memory ∧ resolve waitingTwo piece12 = .memory ∧
    waitingTwo.rdp.contexts.get 1 = none ∧ waitingTwo.rsw.engine = .ready 1 0x100000100 ∧
    (withEngine (.ready 1 0x80000) waitingTwo).rsw.engine = .ready 1 0x80000 := by decide

theorem witness_GrantServesTheOldestWaitingPiece_forwarded :
    grantedClass (withEntry 0 (gatheringEntry 0x80000 0 32 1) waitingRead) = some .read ∧
    ∀ x ∈ readCandidates (withEntry 0 (gatheringEntry 0x80000 0 32 1) waitingRead),
      resolve (withEntry 0 (gatheringEntry 0x80000 0 32 1) waitingRead) x.2.2 ≠ .memory := by decide

theorem witness_LinkAcceptsTheHeadOfTheSendOrder :
    toSend.held = false ∧ toSend.mp.sendOrder = .lineRead 3 0x80040 :: [] ∧ online.mp.sendOrder = [] := by decide

theorem witness_StrayResponseIsOnlyReported :
    online.held = false ∧ online.mp.slots.get 15 = .free ∧
    toSend.mp.slots.get 3 = .busy (.readOf 0 0) 0x80040 false 900 ∧
    (withSlot 0 (.orphaned .read 0x80040 false) online).mp.slots.get 0 = .orphaned .read 0x80040 false := by decide

/-- An ORPHANED slot whose request was sent, with the engine READY. -/
def orphanedReady : State := withSlot 3 (.orphaned .entryWrite 0x90000 true) sweepReady

theorem witness_LateResponseFreesItsSlot :
    orphanedReady.held = false ∧ orphanedReady.mp.slots.get 3 = .orphaned .entryWrite 0x90000 true ∧
    orphanedReady.rsw.engine = .ready 1 0x100000100 ∧ orphaned3.rsw.engine = .idle ∧
    (withEngine (.writing 1 0x100000100) orphanedReady).rsw.engine = .writing 1 0x100000100 ∧
    orphanedReady.nu.queue.length < 32 := by decide

/-- An engine BLOCKED on the slot's line, and two that pace, below SWEEP_URGENT_LEVEL and at it. -/
theorem witness_LateResponseFreesItsSlot_engines :
    (withEngine (.blocked 1 0x90000) orphaned3).rsw.engine = .blocked 1 0x90000 ∧
    toPattern.rsw.engine = .pacing 700 ∧ toPattern.rsw.ahead.length < toPattern.mli.items.sweepUrgentLevel.toNat ∧
    toPattern.rsw.ahead.length < 48 ∧ (2#32).toNat ≤ toPattern.rsw.ahead.length ∧
    32 ≤ ({ online.nu with queue := List.replicate 32 { seq := 0#16, body := .memoryStalled } }).queue.length := by decide

/-- A sweep write at region 1's watermark, on slot 2. -/
def sweepOut (sent : Bool) : State := withEngine (.writing 1 0x100000100) (withSlot 2 (.busy .sweepEngine 0x100000100 sent 900) online)

/-- The same at the last line of a region of one unit, with 65535 sweep faults counted. -/
def sweepLast : State :=
  let s := withEngine (.writing 1 0x10000FFC0) (withSlot 2 (.busy .sweepEngine 0x10000FFC0 true 900) online)
  { s with rsw := { s.rsw with regions := s.rsw.regions.set 1 (.sweeping { info1 with faults := 0xFFFF#16 } 0x10000FFC0) } }

/-- The deadline of that write: one sweep fault, the watermark one line on, the slot ORPHANED, pacing for SWEEP_INTERVAL (R107, R108,
R125). -/
theorem test_sweep_deadline :
    (after (.slotDeadline 2) (sweepOut false)).map (fun t => (t.rsw.regions.get 1, t.rsw.engine, t.mp.slots.get 2,
      t.nu.queue.map Notice.body)) =
    some (.sweeping { info1 with faults := 1#16 } 0x100000140, .pacing 904, .orphaned .sweep 0x100000100 false,
      [.sweepFault 1 0x100000100 .timeout]) := by decide

theorem witness_PacingEndBringsAnEvaluation_write :
    (sweepOut true).held = false ∧ (∀ sent, (sweepOut sent).mp.slots.get 2 = .busy .sweepEngine 0x100000100 sent 900) ∧
    (sweepOut true).rsw.engine = .writing 1 0x100000100 ∧
    (sweepOut true).rsw.regions.get 1 = .sweeping info1 0x100000100 ∧ (sweepOut true).mc.mode = .online ∧
    (sweepOut true).mli.items.sweepInterval ≠ 0#32 ∧
    (sweepOut true).rsw.ahead.length < (sweepOut true).mli.items.sweepUrgentLevel.toNat ∧
    (inMode .draining (sweepOut true)).mc.mode ≠ .online := by decide

theorem witness_PacingEndBringsAnEvaluation_last_write :
    sweepLast.rsw.engine = .writing 1 0x10000FFC0 ∧
    sweepLast.rsw.regions.get 1 = .sweeping { info1 with faults := 0xFFFF#16 } 0x10000FFC0 ∧
    0x10000FFC0 + 64 = info1.base + info1.size ∧ sweepLast.mp.slots.get 2 = .busy .sweepEngine 0x10000FFC0 true 900 := by decide

theorem witness_FetchIsMergedAndWritten :
    fetchingChain.held = false ∧ fetchingChain.mp.slots.get 1 = .busy (.fetchOf 0) 0x100000 true 2205 ∧
    fetchingChain.lat.entries.get 0 = some (issuedAs .fetching .fetch 0x100000 0 32 4) ∧
    (⟨1, 1#2, some (patternLine pat)⟩ : MemoryResponse).data = some (patternLine pat) := by decide

theorem witness_WriteCompletesItsEntry :
    writingAoc.held = false ∧ writingAoc.mp.slots.get 0 = .busy (.writeOf 0) 0x80100 true 2080 ∧
    writingAoc.lat.entries.get 0 = some { issuedAs .writing .fetch 0x80100 4 8 6 with held := [0] } := by decide

/-- What waits for the end of entry 0: a held record, the eviction mark, a SYNC, a barrier, a FLUSH. -/
def awaited : State :=
  let s := withEntry 2
    { closedEntry 0x200000 0 4 4 3 with
      barrier := some { predecessors := (FinSet.empty 32).insert 0, failed := false, suppress := true, rule := 1 } } writingAoc
  { s with
    lat := { s.lat with evictMark := some 0 },
    ord := { s.ord with sync := s.ord.sync.set 6 (some { tag := 1, waitSet := (FinSet.empty 32).insert 0 }) },
    mc := { s.mc with running := .flush ((FinSet.empty 32).insert 0) false } }

theorem witness_WriteCompletesItsEntry_awaited :
    awaited.held = false ∧ awaited.mp.slots.get 0 = .busy (.writeOf 0) 0x80100 true 2080 ∧
    awaited.lat.entries.get 0 = some { issuedAs .writing .fetch 0x80100 4 8 6 with held := [0] } ∧
    [(0 : Fin 16)].Nodup ∧ awaited.lat.evictMark = some 0 ∧ awaited.mc.running = .flush ((FinSet.empty 32).insert 0) false ∧
    awaited.mc.mode ≠ .draining ∧ (awaited.lat.entries.get 2).isSome = true := by decide

theorem witness_WriteCompletesItsEntry_fills :
    timingOut.lat.entries.get 6 = some { issuedAs .writing .none 0x90000 0 64 5 with held := [2] } ∧
    (withEntry 0 (issuedAs .writing .pattern 0x100003000 0 8 1) online).lat.entries.get 0 =
      some (issuedAs .writing .pattern 0x100003000 0 8 1) := by decide

theorem witness_FailedEntrySetsFlagsAndReports :
    fetchingChain.held = false ∧ fetchingChain.lat.entries.get 0 = some (issuedAs .fetching .fetch 0x100000 0 32 4) ∧
    fetchingChain.mp.slots.get 1 = .busy (.fetchOf 0) 0x100000 true 2205 ∧ memoryStatusOf 3#2 = .dataFault ∧
    fetchingChain.nu.queue.length < 32 := by decide

theorem witness_FailedEntrySetsFlagsAndReports_write :
    timingOut.held = false ∧ timingOut.mp.slots.get 3 = .busy (.writeOf 6) 0x90000 true 1500 ∧
    timingOut.lat.entries.get 6 = some { issuedAs .writing .none 0x90000 0 64 5 with held := [2] } ∧
    memoryStatusOf 2#2 = .dataFault ∧ timingOut.nu.queue.length < 32 ∧
    (∀ u ∈ [0, 1500], timingOut.rsw.engine ≠ .pacing u) := by decide

/-- That context with its piece in memory. -/
def readingContext : Context := { waitingContext with pieces := [{ span := piece12, state := .reading }] }

/-- A read piece on a slot. -/
def readOut : State :=
  let s := withSlot 0 (.busy (.readOf 0 0) 0x80000 true 2411) online
  { s with rdp := { contexts := s.rdp.contexts.set 0 (some readingContext), ready := [] } }

theorem witness_ReadReturnIsOverlaid :
    readOut.held = false ∧ readOut.mp.slots.get 0 = .busy (.readOf 0 0) 0x80000 true 2411 ∧
    readOut.rdp.contexts.get 0 = some readingContext ∧
    readingContext.pieces[0]? = some { span := piece12, state := .reading } := by decide

/-- Pieces that no entry covers and that one covers wholly. -/
theorem witness_ReadReturnIsOverlaid_failed :
    covered readOut piece12 = false ∧ readOut.nu.queue.length < 32 ∧ memoryStatusOf 2#2 = .dataFault ∧
    covered (withEntry 0 (gatheringEntry 0x80000 0 32 1) readOut) piece12 = true ∧ readOut.rsw.engine = .idle := by decide

theorem witness_DeadlineOrphansTheSlot :
    timingOut.held = false ∧ timingOut.mp.slots.get 3 = .busy (.writeOf 6) 0x90000 true 1500 ∧
    slotBusy (timingOut.mp.slots.get 4) = false ∧ slotBusy (orphaned3.mp.slots.get 3) = false := by decide

/-- Fifteen slots ORPHANED, and slot 3 BUSY. -/
def stalling (mark : Bool) : State :=
  { timingOut with mp := { timingOut.mp with
      slots := (Table.fill 16 (.orphaned .read 0x80040 true)).set 3 (.busy (.writeOf 6) 0x90000 true 1500), stallMark := mark } }

/-- The deadline leaves every slot ORPHANED, with the stall mark clear and set. -/
theorem witness_DeadlineOrphansTheSlot_stall :
    (∀ mark, (stalling mark).mp.slots.get 3 = .busy (.writeOf 6) 0x90000 true 1500 ∧ (stalling mark).mp.stallMark = mark) ∧
    (∀ i, slotOrphaned (((stalling false).mp.slots.set 3 (.orphaned .entryWrite 0x90000 true)).get i) = true) := by decide

/-- A GATHERING entry with a deadline. -/
def gatheringState : State := withEntry 0 (gatheringEntry 0x80100 4 8 6) online

theorem witness_GatherDeadlineClosesTheEntry :
    gatheringState.held = false ∧ gatheringState.lat.entries.get 0 = some (gatheringEntry 0x80100 4 8 6) ∧
    (gatheringEntry 0x80100 4 8 6).state = .gathering ∧ (gatheringEntry 0x80100 4 8 6).deadline = some 26 ∧
    gatheringState.lat.entries.get 1 = none := by decide

theorem witness_PacingEndBringsAnEvaluation :
    (withEngine (.pacing 700) online).held = false ∧ (withEngine (.pacing 700) online).rsw.engine = .pacing 700 ∧
    (withEngine (.pacing 700) online).mc.mode = .online ∧
    sweepTarget (withEngine (.pacing 700) online) = some (1, 0x100000100) ∧
    writtenAhead (withEngine (.pacing 700) online).rsw 0x100000100 = false := by decide

/-- A pacing ends at a WRITTEN record, which the sweep passes. -/
theorem test_pacing_end_passes_a_written_record :
    (after .pacingEnd
      { withEngine (.pacing 700) online with
        rsw := { (withEngine (.pacing 700) online).rsw with
          ahead := [{ line := 0x100000100, region := 1, state := .written }] } }).map
      (fun t => (t.rsw.engine, t.rsw.ahead, t.rsw.regions.get 1)) =
    some (.ready 1 0x100000140, [], .sweeping info1 0x100000140) := by decide

theorem witness_PacingEndBringsAnEvaluation_others :
    (withEngine (.pacing 700) (inMode .draining online)).mc.mode ≠ .online ∧ sweepTarget State.reset = none ∧
    (∀ n ∈ [0, 700], online.rsw.engine ≠ .pacing n) := by decide

theorem witness_SuppressedEntryIsDiscarded :
    suppressed.held = false ∧ suppressed.ord.discards = 2 :: [] ∧ suppressed.nu.queue.length < 32 ∧
    ((suppressed.lat.entries.get 2).bind (fun e => e.barrier.map (fun b =>
      (e.state, b.predecessors.isEmpty, b.failed, b.suppress)))) = some (.closed, true, true, true) ∧
    online.ord.discards = [] := by decide

theorem witness_FlushCompletesWithItsOutcome :
    flushed.held = false ∧ flushed.mc.running = .flush (FinSet.empty 32) true ∧ (FinSet.empty 32).isEmpty = true ∧
    flushing.held = false ∧ flushing.mc.running = .flush ((FinSet.empty 32).insert 0) false ∧
    ((FinSet.empty 32).insert 0).isEmpty = false ∧ online.mc.running = .none := by decide

theorem witness_GetItemAnswersTheItem : FrameFinds online online := ⟨by decide, rfl⟩

/-- The ends of each range, and the values just beyond them. -/
theorem witness_SetItemTakesValuesInRange :
    FrameFinds online online ∧ 1023 < (1024#32).toNat ∧ (1023#32).toNat ≤ 1023 ∧ (0#32).toNat = 0 ∧ 65535 < (65536#32).toNat ∧
    1 ≤ (1#32).toNat ∧ (65535#32).toNat ≤ 65535 ∧ 255 < (256#32).toNat ∧ (255#32).toNat ≤ 255 ∧ 48 < (49#32).toNat ∧
    (48#32).toNat ≤ 48 ∧ 2 ^ 11 ≤ (2048#32).toNat ∧ (2047#32).toNat < 2 ^ 11 ∧ 6#8 ≤ (6#8 : Byte) ∧ 6#8 ≤ (255#8 : Byte) := ⟨⟨by decide, rfl⟩, by decide⟩

theorem witness_SetItemTakesValuesInRange_level :
    (∀ u ∈ [0, 700], online.rsw.engine ≠ .pacing u) ∧ toPattern.rsw.engine = .pacing 700 ∧
    (2#32).toNat ≤ toPattern.rsw.ahead.length ∧ toPattern.rsw.ahead.length < (3#32).toNat ∧ starving toPattern = false := by
  decide

/-- 48 records and an entry that waits for room in the Ahead List. -/
theorem witness_SetItemTakesValuesInRange_starving :
    starving { toPattern with rsw := { toPattern.rsw with
      ahead := (List.range 48).map (fun n => { line := 0x100004000 + 64 * n, region := 1, state := .written }) } } = true := by
  decide

theorem witness_StatusAndSlotsAreReported : FrameFinds orphaned3 orphaned3 := ⟨by decide, rfl⟩

theorem witness_FlagsAndCountersAreReported : FrameFinds counted counted := ⟨by decide, rfl⟩

theorem witness_TakeNoticeRemovesAtTheFrameEnd :
    takingNotice.held = false ∧
    takingNotice.nu.queue = { seq := 0#16, body := .strayResponse 3 } :: [{ seq := 1#16, body := .memoryStalled }] ∧
    takingNotice.mli.frame = .answering [0xFF#8, 0#8] true ∧ online.nu.queue = [] := by decide

theorem witness_TakeNoticeRemovesAtTheFrameEnd_frames : FrameFinds online online ∧ FrameFinds twoNotices twoNotices :=
  ⟨⟨by decide, rfl⟩, ⟨by decide, rfl⟩⟩

theorem witness_UnknownAndBrokenFrames :
    FrameFinds takingNotice takingNotice ∧ ignoresFrame takingNotice = false ∧ (FrameCut.inAnswer 1).wellFormed = true ∧
    takingNotice.mli.frame = .answering [0xFF#8, 0#8] true ∧ 1 < [0xFF#8, (0#8 : Byte)].length ∧
    (FrameCut.inRequest [0x02#8, 0x01#8, 0#8, 0#8, 0#8]).wellFormed = true ∧
    (overlapped online).held = false ∧ (overlapped online).mli.frame = .ignoring ∧
    (encodeFrame .takeNotice).isSome = true :=
  ⟨⟨by decide, rfl⟩, by decide⟩

/-- An index out of range, a present index, an unaligned base, a size of zero, a range beyond the space, a mode out of range, an
overlap of one unit. -/
theorem witness_DefineRegionMakesTheRecordPresent :
    FrameFinds online online ∧ 8 ≤ (8#8 : Byte).toNat ∧ ((0 : Fin 8).val = (0#8 : Byte).toNat ∧ online.rsw.regions.get 0 ≠ .absent) ∧
    (1#40).toNat % 65536 ≠ 0 ∧ 2 ^ 40 < (0xFFFFFF0000#40).toNat + (2#32).toNat * 65536 ∧ (2#8 : Byte) ≠ 0#8 ∧
    (2#8 : Byte) ≠ 1#8 ∧ (online.rsw.regions.get 0).info = some info0 ∧ (0xFF0000#40).toNat < info0.base + info0.size ∧
    info0.base < (0xFF0000#40).toNat + (1#32).toNat * 65536 := ⟨⟨by decide, rfl⟩, by decide⟩

/-- The last unit of the space, and the unit that follows region 0. -/
theorem witness_DefineRegionMakesTheRecordPresent_accepted :
    (7 : Fin 8).val = (7#8 : Byte).toNat ∧ online.rsw.regions.get 7 = .absent ∧ (0xFFFFFF0000#40).toNat % 65536 = 0 ∧
    (0xFFFFFF0000#40).toNat + (1#32).toNat * 65536 ≤ 2 ^ 40 ∧
    (∀ j : Fin 8, (online.rsw.regions.get j).info.all (fun i => decide
      (i.base + i.size ≤ (0xFFFFFF0000#40).toNat ∨ (0xFFFFFF0000#40).toNat + (1#32).toNat * 65536 ≤ i.base)) = true) ∧
    info0.base + info0.size ≤ (0x1000000#40).toNat := by decide

/-- The engine's clauses: outside ONLINE, and in ONLINE without a SWEEPING region. -/
theorem witness_DefineRegionMakesTheRecordPresent_engine :
    State.reset.rsw.engine = .idle ∧ State.reset.mc.mode ≠ .online ∧
    (∀ j, isSweeping ((inMode .online State.reset).rsw.regions.get j) = false) ∧
    (inMode .online State.reset).rsw.ahead = [] ∧ claimed (inMode .online State.reset).mp 0 = false := by decide

/-- In ONLINE beside region 1, which is SWEEPING: engines READY, BLOCKED, WRITING and pacing, with records of another range. -/
theorem witness_DefineRegionMakesTheRecordPresent_beside :
    toPattern.mc.mode = .online ∧ sweepReady.rsw.engine = .ready 1 0x100000100 ∧
    (∀ r ∈ toPattern.rsw.ahead, r.line < (0xFFFFFF0000#40).toNat) ∧ toPattern.rsw.engine = .pacing 700 ∧
    toPattern.rsw.ahead.length < toPattern.mli.items.sweepUrgentLevel.toNat ∧ toPattern.rsw.ahead.length < 48 ∧
    (sweepOut true).rsw.engine = .writing 1 0x100000100 := by decide

/-- The new region's record stands whatever the engine does (R93). -/
theorem test_define_region_beside_a_sweep :
    (after (.defineRegion 7#8 0xFFFFFF0000#40 1#32 1#8 pat) toPattern).map
      (fun t => (t.rsw.regions.get 7, t.rsw.engine)) =
    some (.sweeping { base := 0xFFFFFF0000, size := 0x10000, pattern := pat, faults := 0#16 } 0xFFFFFF0000, .pacing 700) := by
  decide

theorem witness_RetireRegionRemovesTheRecord :
    FrameFinds toPattern toPattern ∧ toPattern.mc.mode = .online ∧ (inMode .draining toPattern).mc.mode = .draining ∧
    (inMode .offline toPattern).mc.mode = .offline ∧ (1 : Fin 8).val = (1#8 : Byte).toNat ∧
    (inMode .offline toPattern).rsw.regions.get 1 ≠ .absent ∧ (inMode .offline toPattern).rsw.regions.get 7 = .absent ∧
    (inMode .offline toPattern).rsw.ahead.length ≤ 48 ∧ ∃ r ∈ (inMode .offline toPattern).rsw.ahead, r.region = 1 := ⟨⟨by decide, rfl⟩, by decide⟩

theorem witness_ReadRegionShowsTheRecord :
    FrameFinds online online ∧ 8 ≤ (8#8 : Byte).toNat ∧ (7 : Fin 8).val = (7#8 : Byte).toNat := ⟨⟨by decide, rfl⟩, by decide⟩

/-- Limits at the end of the space and beyond, requester codes 15, 16, 0xFE and 0xFF, scope codes 1 and 2. -/
theorem witness_SetRuleReplacesTheRule :
    FrameFinds (inMode .offline online) (inMode .offline online) ∧ (inMode .offline online).mc.mode = .offline ∧ online.mc.mode = .online ∧
    (0x3FFFFFFFF#40).toNat < (0x400000000#40).toNat ∧ (0x400000000#40).toNat * 64 ≤ 2 ^ 40 ∧
    2 ^ 40 < (0x400000001#40).toNat * 64 ∧ (5#40).toNat ≤ (5#40).toNat ∧ (15 : Fin 16).val = (15#8 : Byte).toNat ∧
    ((16#8 : Byte) ≠ 0xFF#8 ∧ 16 ≤ (16#8 : Byte).toNat) ∧ ((0xFE#8 : Byte) ≠ 0xFF#8 ∧ 16 ≤ (0xFE#8 : Byte).toNat) ∧
    ((2#8 : Byte) ≠ 0#8 ∧ (2#8 : Byte) ≠ 1#8) := ⟨⟨by decide, rfl⟩, by decide⟩

theorem witness_ClearAndReadRule :
    FrameFinds (withRule online) (withRule online) ∧ (withRule online).mc.mode = .online ∧
    (inMode .quiesced (withRule online)).mc.mode = .quiesced ∧ (1 : Fin 8).val = (1#8 : Byte).toNat ∧
    8 ≤ (8#8 : Byte).toNat := ⟨⟨by decide, rfl⟩, by decide⟩

theorem witness_GoOnlineAndResumeStartTheBridge :
    FrameFinds online online ∧ online.mc.mode = .online ∧ (inMode .offline online).mc.mode = .offline ∧
    (inMode .quiesced online).mc.mode = .quiesced ∧ orphaned3.mc.mode = .draining ∧ orphaned3.nu.queue.length < 32 ∧
    sweepTarget (inMode .offline online) = some (1, 0x100000100) ∧ (inMode .offline online).rsw.engine = .idle ∧
    writtenAhead (inMode .offline online).rsw 0x100000100 = false ∧ (inMode .offline online).rqp.intake = [] ∧
    (withEngine (.writing 1 0x100000100) orphaned3).rsw.engine = .writing 1 0x100000100 := ⟨⟨by decide, rfl⟩, by decide⟩

theorem witness_QuiesceStartsTheDrain :
    FrameFinds gatheringState gatheringState ∧ FrameFinds flushing flushing ∧ FrameFinds State.reset State.reset ∧
    gatheringState.mc.mode = .online ∧ gatheringState.mc.running = .none ∧ drained gatheringState = false ∧
    drained online = true ∧ flushing.mc.mode = .online ∧ flushing.mc.running ≠ .none ∧ State.reset.mc.mode ≠ .online :=
  ⟨⟨by decide, rfl⟩, ⟨by decide, rfl⟩, ⟨by decide, rfl⟩, by decide⟩

/-- A WRITING engine, another engine, and a table with a GATHERING and a CLOSED entry. -/
theorem witness_QuiesceStartsTheDrain_engines :
    (withEngine (.writing 1 0x100000100) online).rsw.engine = .writing 1 0x100000100 ∧
    (∀ k ∈ List.finRange 8, (withEngine (.ready 1 0x100000100) online).rsw.engine ≠ .writing k 0x100000100) ∧
    FrameFinds releasing releasing ∧ isGathering (gatheringEntry 0x100000 0 32 4) = true ∧
    isGathering (closedEntry 0x80100 0 8 2 1) = false := ⟨by decide, by decide, ⟨by decide, rfl⟩, by decide, by decide⟩

/-- The closes stand in ascending index behind what was in the Issue Queue (R17). -/
theorem test_quiesce_closes_in_order :
    (after .quiesce (withEntry 4 (gatheringEntry 0x300000 0 8 1) (withEntry 9 (closedEntry 0x80100 0 8 2 1)
      (withEntry 7 (gatheringEntry 0x100000 0 32 4) online)))).map (fun t => (t.lat.issueQueue,
        (t.lat.entries.get 4).bind Entry.closeNumber, (t.lat.entries.get 7).bind Entry.closeNumber)) =
    some ([9, 4, 7], some 2, some 3) := by decide

theorem witness_FlushWaitsForEveryEntry :
    FrameFinds gatheringState gatheringState ∧ FrameFinds flushing flushing ∧ FrameFinds State.reset State.reset ∧
    gatheringState.mc.mode = .online ∧ gatheringState.mc.running = .none ∧
    flushing.mc.mode = .online ∧ flushing.mc.running ≠ .none ∧ State.reset.mc.mode ≠ .online :=
  ⟨⟨by decide, rfl⟩, ⟨by decide, rfl⟩, ⟨by decide, rfl⟩, by decide⟩

/-- A frame that ends a FLUSH, and an empty table. -/
theorem witness_FlushWaitsForEveryEntry_empty :
    FrameFinds flushed (completeFlush flushed) ∧ FrameFinds online online ∧ online.mc.mode = .online ∧
    online.mc.running = .none ∧ (∀ i, online.lat.entries.get i = none) :=
  ⟨⟨by decide, rfl⟩, ⟨by decide, rfl⟩, by decide⟩

theorem witness_WarmResetClearsTheTraffic :
    FrameFinds timingOut timingOut ∧ FrameFinds flushing flushing ∧ timingOut.mc.running = .none ∧
    ({ online with mc := { mode := .draining, running := .quiesce, last := none } }).mc.running = .quiesce ∧
    flushing.mc.running = .flush ((FinSet.empty 32).insert 0) false :=
  ⟨⟨by decide, rfl⟩, ⟨by decide, rfl⟩, by decide⟩

/-- A drain that the reset aborts with every slot taken, and the three ways in which no slot notice is posted. -/
theorem witness_WarmResetClearsTheTraffic_stall :
    (∃ i : Fin 16, slotBusy ((stalling false).mp.slots.get i) = true) ∧ (∀ i : Fin 16, (stalling false).mp.slots.get i ≠ .free) ∧
    (stalling false).mp.stallMark = false ∧ (∀ i : Fin 16, slotBusy (orphaned3.mp.slots.get i) = false) ∧
    (∃ i : Fin 16, timingOut.mp.slots.get i = .free) ∧ (stalling true).mp.stallMark = true := by decide

/-- COMMAND_DONE with ABORTED stands before MEMORY_STALLED (R157, R163). -/
theorem test_reset_bridge_notices :
    (after .resetBridge
      { stalling false with mc := { mode := .draining, running := .quiesce, last := none } }).map
      (fun t => (t.nu.queue.map Notice.body, t.mp.stallMark)) =
    some ([.commandDone .quiesce .aborted, .memoryStalled], true) := by decide

theorem witness_ReclaimFreesTheOrphanedSlots :
    FrameFinds orphaned3 orphaned3 ∧ orphaned3.mc.mode ≠ .online ∧ online.mc.mode = .online ∧
    0 < (Finset.univ.filter (fun i : Fin 16 => slotOrphaned (orphaned3.mp.slots.get i) = true)).card := ⟨⟨by decide, rfl⟩, by decide⟩

/-! ### The laws -/

/-- A state with traffic in every block and a GRANT in front. -/
def busyState : State :=
  { withSlot 3 (.busy (.writeOf 6) 0x90000 true 1500)
      (withSlot 1 (.orphaned .read 0x90040 true)
        (withEntry 6 (issuedAs .writing .none 0x90000 0 64 5)
          (withEntry 5 (gatheringEntry 0x80000 0 8 1) (withEntry 0 (closedEntry 0x80000 0 8 1 1) sweepReady)))) with
    pending := [.grant 10] }

theorem witness_step : ∃ t, step busyState = .next t := ⟨_, rfl⟩

theorem witness_LineClaimsStayDistinct : ClaimLaw busyState := by
  constructor
  · unfold ClaimsDistinct; decide
  · decide

theorem witness_IssueQueueHoldsTheClosedEntries : IssueLaw busyState :=
  ⟨witness_LineClaimsStayDistinct, by decide, by unfold IssueQueueExact; decide⟩

theorem witness_OneGatheringEntryForALine : GatherLaw busyState := by constructor <;> decide

theorem witness_ModesHoldWhatTheyPermit : ModeLaw busyState := by
  unfold ModeLaw DrainCondition; decide

/-- A state with two outstanding requests and the READ's response in front. -/
def outstanding : State :=
  { readDone with
    rqp := { readDone.rqp with
      tags := [(6, 40), (4, 1)],
      wrt := readDone.rqp.wrt.set 0 (some { requester := 6, tag := 40, outstanding := 1, worst := .ok }) },
    pending := [.readResponse] }

theorem witness_TagsInUseAreTheOutstandingRequests : TagLaw outstanding ∧ ∃ t, step outstanding = .next t := by
  refine ⟨⟨by decide, by decide, fun p => ?_⟩, ⟨_, rfl⟩⟩
  have h : outstandingPairs outstanding = [(4, 1), (6, 40)] := by decide
  rw [h]
  simp [outstanding, or_comm]

theorem witness_RegionsStaySound : RegionLaw busyState := by constructor <;> decide

theorem witness_StarvationMarkFollowsItsCondition : StarvationLaw busyState := by unfold StarvationLaw; decide

theorem witness_ListsStayOrderedAndBounded :
    AheadLaw { toPattern with pending := [.grant 600] } ∧ IntakeLaw fullIntake ∧ NoticeLaw twoNotices := by
  refine ⟨⟨by decide, by decide⟩, ?_, ?_⟩
  · unfold IntakeLaw; decide
  · unfold NoticeLaw; decide

theorem witness_ModeChangesOnlyAsListed :
    ∃ t, exec .goOnline State.reset = .next t ∧ State.reset.mc.mode = .offline ∧ t.mc.mode = .online :=
  ⟨_, rfl, rfl, rfl⟩

/-- A drain whose last entry's write is out, alone or beside another entry. -/
def lastOfDrain (more : Bool) : State :=
  let s := { timingOut with mc := { mode := .draining, running := .quiesce, last := none } }
  if more then withEntry 0 (closedEntry 0x80100 0 8 2 1) s else s

theorem witness_ModeChangesOnlyAsListed_drain : ∀ more, ModeLaw (lastOfDrain more) ∧ (lastOfDrain more).held = false := by
  unfold ModeLaw DrainCondition; decide

/-- The deadline that ends the last entry completes the drain; beside another entry the drain goes on (R153). -/
theorem witness_ModeChangesOnlyAsListed_ends :
    (after (.slotDeadline 3) (lastOfDrain false)).map (fun t => (t.mc.mode, t.nu.queue.map Notice.body)) =
      some (.quiesced, [.writeUnconfirmed 0x90000 ((FinSet.empty 16).insert 5), .commandDone .quiesce .done]) ∧
    (after (.slotDeadline 3) (lastOfDrain true)).map (fun t => (t.mc.mode, t.nu.queue.map Notice.body)) =
      some (.draining, [.writeUnconfirmed 0x90000 ((FinSet.empty 16).insert 5)]) := by decide

theorem witness_RegionsChangeOnlyAsListed :
    (∃ t, exec (.defineRegion 2#8 0x0100010000#40 2#32 1#8 pat) online = .next t ∧ online.rsw.regions.get 2 = .absent ∧
      t.rsw.regions.get 2 ≠ .absent) ∧
    (∃ t, exec (.retireRegion 0#8) (inMode .offline online) = .next t ∧ online.rsw.regions.get 0 = .ready info0 ∧
      t.rsw.regions.get 0 ≠ .ready info0) ∧
    online.rsw.regions.get 1 = .sweeping info1 0x100000100 :=
  ⟨⟨_, rfl, by decide, by decide⟩, ⟨_, rfl, by decide, by decide⟩, by decide⟩

/-- The last write of the sweep makes the region READY and posts SWEEP_DONE (R110). -/
theorem witness_RegionsChangeOnlyAsListed_ready :
    ∃ t, exec (.memoryResponse 100 { slot := 2, status := 0#2, data := none }) sweepLast = .next t ∧
      sweepLast.rsw.regions.get 1 = .sweeping { info1 with faults := 0xFFFF#16 } 0x10000FFC0 ∧
      t.rsw.regions.get 1 = .ready { info1 with faults := 0xFFFF#16 } ∧
      t.nu.queue.map Notice.body = [.sweepDone 1 0xFFFF#16] := ⟨_, rfl, by decide, by decide, by decide⟩

theorem witness_RefusalsChangeNoState :
    FrameFinds online online ∧ (∃ t, exec .goOnline online = .next t ∧
      t.out.answers = online.out.answers ++ [{ status := .refusedMode, fields := .nothing }]) ∧
    (encodeFrame .goOnline).isSome = true ∧ (encodeFrame .pacingEnd).isNone = true :=
  ⟨⟨by decide, rfl⟩, ⟨_, rfl, by decide⟩, by decide, by decide⟩

theorem witness_FramesDecodeAndEncodeAgree :
    (Instr.setItem 2#8 1500#32).wellFormed = true ∧
    encodeFrame (.setItem 2#8 1500#32) = some [0x02#8, 0x02#8, 0x00#8, 0x00#8, 0x05#8, 0xDC#8] ∧
    decodeFrame [0x02#8, 0x02#8, 0x00#8, 0x00#8, 0x05#8, 0xDC#8] = some (.setItem 2#8 1500#32) := by decide

end Sys2Proof.Tests
end

section
/-! The commands CLEAR_RULE and READ_RULE (R51): what their arguments select, what each act answers, and the statement about both. -/

namespace Sys2Proof.Machine

/-! ## What the judgements of the mode and of the index select -/

/-- An index byte of 8 or more selects nothing (R178). -/
theorem indexArgument_eq_none {index : Byte} (h : 8 ≤ index.toNat) : indexArgument index = none := by
  simp [indexArgument, h]

/-- An index byte below 8 selects the record of that number. -/
theorem indexArgument_eq_some {index : Byte} {k : Fin 8} (h : k.val = index.toNat) : indexArgument index = some k := by
  simp [indexArgument, ← h]

theorem atRest_eq_true {m : Mode} (h : m = .offline ∨ m = .quiesced) : atRest m = true := by
  rcases h with rfl | rfl <;> rfl

theorem atRest_eq_false {m : Mode} (h : m = .online ∨ m = .draining) : atRest m = false := by
  rcases h with rfl | rfl <;> rfl

/-! ## The acts -/

/-- Outside OFFLINE and QUIESCED the mode refuses CLEAR_RULE, whatever its index is. -/
theorem clearRule_refusedMode {s : State} (h : atRest s.mc.mode = false) (index : Byte) :
    clearRule index s = answer .refusedMode s := by
  simp [clearRule, h]

theorem clearRule_refusedArgument {s : State} {index : Byte} (hm : atRest s.mc.mode = true)
    (hi : indexArgument index = none) : clearRule index s = answer .refusedArgument s := by
  simp [clearRule, hm, hi]

theorem clearRule_done {s : State} {index : Byte} {k : Fin 8} (hm : atRest s.mc.mode = true)
    (hi : indexArgument index = some k) : clearRule index s = answer .done (putRule k none s) := by
  simp [clearRule, hm, hi]

theorem readRule_refusedArgument {index : Byte} (hi : indexArgument index = none) (s : State) :
    readRule index s = answer .refusedArgument s := by
  simp [readRule, hi]

theorem readRule_done {index : Byte} {k : Fin 8} (hi : indexArgument index = some k) (s : State) :
    readRule index s = answerWith .done (.rule (s.ord.rules.get k)) s := by
  simp [readRule, hi]

/-! ## The commands -/

/-- A CLEAR_RULE whose frame the receiver hears makes its act on what the frame finds. -/
theorem exec_clearRule_heard {s₀ s : State} (h : FrameFinds s₀ s) (index : Byte) :
    exec (.clearRule index) s₀ = .next (clearRule index s) :=
  onFrame_heard h (clearRule index)

/-- A READ_RULE whose frame the receiver hears makes its act on what the frame finds. -/
theorem exec_readRule_heard {s₀ s : State} (h : FrameFinds s₀ s) (index : Byte) :
    exec (.readRule index) s₀ = .next (readRule index s) :=
  onFrame_heard h (readRule index)

/-- Settles O42: the mode is judged first, then the index, and the heard frame makes the act that the two select. -/
theorem clearAndReadRule : Obligations.ClearAndReadRule := by
  intro index s₀ s hs
  rw [exec_clearRule_heard hs, exec_readRule_heard hs]
  refine ⟨fun hmode => ?refusedMode, fun hindex => ?refusedArgument, fun k hk => ?done⟩
  case refusedMode =>
    rw [clearRule_refusedMode (atRest_eq_false hmode)]
    rfl
  case refusedArgument =>
    have hnone := indexArgument_eq_none hindex
    refine ⟨fun hmode => ?_, ?_⟩
    · rw [clearRule_refusedArgument (atRest_eq_true hmode) hnone]
      rfl
    · rw [readRule_refusedArgument hnone]
      rfl
  case done =>
    have hsome := indexArgument_eq_some hk
    refine ⟨fun hmode => ?_, ?_⟩
    · rw [clearRule_done (atRest_eq_true hmode) hsome]
      rfl
    · rw [readRule_done hsome]
      rfl

end Sys2Proof.Machine
end

section
/-! The command READ_REGION (R95): the Ahead List records of a region counted, what the act answers, and its statement. -/

namespace Sys2Proof.Machine

/-- A region's Ahead List count is the number of Ahead List records that name it. -/
theorem aheadCountOf_eq_countP (u : Rsw) (k : Fin 8) :
    aheadCountOf u k = u.ahead.countP (fun r => r.region == k) :=
  List.countP_eq_length_filter.symm

/-! ## The act -/

theorem readRegion_refusedArgument {index : Byte} (hi : indexArgument index = none) (s : State) :
    readRegion index s = answer .refusedArgument s := by
  simp [readRegion, hi]

theorem readRegion_done {index : Byte} {k : Fin 8} (hi : indexArgument index = some k) (s : State) :
    readRegion index s = answerWith .done (.region (s.rsw.regions.get k) (aheadCountOf s.rsw k)) s := by
  simp [readRegion, hi]

/-! ## The command -/

/-- A READ_REGION whose frame the receiver hears makes its act on what the frame finds. -/
theorem exec_readRegion_heard {s₀ s : State} (h : FrameFinds s₀ s) (index : Byte) :
    exec (.readRegion index) s₀ = .next (readRegion index s) :=
  onFrame_heard h (readRegion index)

/-- Settles O40: no mode is judged; the index alone selects between the refusal and the record with its count, and the heard
frame leaves the rest as it found it. -/
theorem readRegionShowsTheRecord : Obligations.ReadRegionShowsTheRecord := by
  intro index s₀ s hs
  rw [exec_readRegion_heard hs]
  refine ⟨fun hindex => ?refusedArgument, fun k hk => ?done⟩
  case refusedArgument =>
    rw [readRegion_refusedArgument (indexArgument_eq_none hindex)]
    rfl
  case done =>
    rw [readRegion_done (indexArgument_eq_some hk), aheadCountOf_eq_countP]
    rfl

end Sys2Proof.Machine
end

section
/-! MEMORY_RESPONSE for a slot that expects none (R122): what the slot's state selects, and the statement about stray responses. -/

namespace Sys2Proof.Machine

/-! ## The act -/

/-- A slot that is FREE, or whose request is not yet sent, has its response reported as stray (R122). -/
theorem receive_stray {s : State} {r : MemoryResponse}
    (h : s.mp.slots.get r.slot = .free ∨ (∃ o l d, s.mp.slots.get r.slot = .busy o l false d) ∨
      ∃ p l, s.mp.slots.get r.slot = .orphaned p l false) :
    receive r s = post (.strayResponse r.slot) s := by
  obtain hfree | ⟨owner, line, deadline, hbusy⟩ | ⟨purpose, line, horphaned⟩ := h
  · simp only [receive, hfree]
  · simp only [receive, hbusy]
  · simp only [receive, horphaned]

/-! ## The command -/

/-- A released machine takes a MEMORY_RESPONSE at the moment that the command carries. -/
theorem exec_memoryResponse_released {s : State} (h : s.held = false) (time : Nat) (r : MemoryResponse) :
    exec (.memoryResponse time r) s = .next (receive r (atTime time s)) :=
  whenRunning_released h (fun s => receive r (atTime time s))

/-- Settles O21: the clock leaves the slots as they are, so the response is stray at its own moment too, and the notice is the
only other change. -/
theorem strayResponseIsOnlyReported : Obligations.StrayResponseIsOnlyReported := by
  intro time r s hheld hslot
  rw [exec_memoryResponse_released hheld, receive_stray (by simpa only [atTime_mp] using hslot)]
  rfl

end Sys2Proof.Machine
end

section
/-! The sweep after SWEEP_URGENT_LEVEL or the Ahead List has changed (R27, R108, R109): when a pacing goes on, and when a fresh
evaluation ends it. -/

namespace Sys2Proof.Machine

/-! ## Urgency -/

theorem urgent_eq_true {s : State} (h : s.mli.items.sweepUrgentLevel.toNat ≤ s.rsw.ahead.length ∨ s.starvation = true) :
    urgent s = true := by
  simpa [urgent] using h

theorem urgent_eq_false {s : State} (hlevel : s.rsw.ahead.length < s.mli.items.sweepUrgentLevel.toNat)
    (hmark : s.starvation = false) : urgent s = false := by
  simp [urgent, hlevel, hmark]

/-! ## The pacing -/

/-- An engine that does not pace has no pacing to end. -/
theorem judgeUrgency_of_not_pacing {s : State} (h : ∀ u, s.rsw.engine ≠ .pacing u) : judgeUrgency s = s := by
  unfold judgeUrgency
  split
  case h_1 u hu => exact absurd hu (h u)
  all_goals rfl

/-- A sweep that is not urgent leaves its engine as it is. -/
theorem judgeUrgency_of_not_urgent {s : State} (h : urgent s = false) : judgeUrgency s = s := by
  unfold judgeUrgency
  split
  case h_1 => simp [h]
  all_goals rfl

/-- A pacing of an urgent sweep ends in a fresh evaluation. -/
theorem judgeUrgency_of_urgent {s : State} {u : Nat} (hpacing : s.rsw.engine = .pacing u) (h : urgent s = true) :
    judgeUrgency s = evaluate s := by
  simp [judgeUrgency, hpacing, h]

/-- No evaluation begins a pacing (R103, R104). -/
theorem evaluate_engine_ne_pacing (s : State) (u : Nat) : (evaluate s).rsw.engine ≠ .pacing u := by
  obtain hidle | ⟨k, line, hblocked, -⟩ | ⟨k, line, hready, -⟩ := evaluateWith_engine s.rsw.ahead.length s
  · simp [evaluate, hidle]
  · simp [evaluate, hblocked]
  · simp [evaluate, hready]

theorem judgeUrgency_engine_ne_pacing {s : State} (h : urgent s = true) (u : Nat) :
    (judgeUrgency s).rsw.engine ≠ .pacing u := by
  by_cases hpacing : ∃ v, s.rsw.engine = .pacing v
  · obtain ⟨v, hv⟩ := hpacing
    rw [judgeUrgency_of_urgent hv h]
    exact evaluate_engine_ne_pacing s u
  · have hother : ∀ v, s.rsw.engine ≠ .pacing v := fun v hv => hpacing ⟨v, hv⟩
    rw [judgeUrgency_of_not_pacing hother]
    exact hother u

/-! ## The judgements of one act together -/

/-- Where no pacing runs, the judgements touch the starvation mark alone. -/
theorem settleSweep_of_not_pacing {s : State} (h : ∀ u, s.rsw.engine ≠ .pacing u) :
    settleSweep s = judgeStarvation s := by
  unfold settleSweep
  rw [judgeUrgency_of_not_pacing (s := judgeStarvation s) h]
  rfl

/-- A sweep that is not urgent once the mark is judged has the starvation mark alone changed. -/
theorem settleSweep_of_not_urgent {s : State} (hlevel : s.rsw.ahead.length < s.mli.items.sweepUrgentLevel.toNat)
    (hstarving : starving s = false) : settleSweep s = judgeStarvation s := by
  unfold settleSweep
  rw [judgeUrgency_of_not_urgent (s := judgeStarvation s) (urgent_eq_false hlevel hstarving)]
  rfl

/-- An Ahead List at SWEEP_URGENT_LEVEL leaves no pacing (R109). -/
theorem settleSweep_engine_ne_pacing {s : State} (h : s.mli.items.sweepUrgentLevel.toNat ≤ s.rsw.ahead.length) (u : Nat) :
    (settleSweep s).rsw.engine ≠ .pacing u :=
  judgeUrgency_engine_ne_pacing (s := judgeStarvation s) (urgent_eq_true (.inl h)) u

/-- The pacing of an urgent sweep ends in a fresh evaluation of the sweep as it stood (R108). -/
theorem settleSweep_evaluated {s : State} {u : Nat} (hpacing : s.rsw.engine = .pacing u)
    (h : s.mli.items.sweepUrgentLevel.toNat ≤ s.rsw.ahead.length ∨ starving s = true) :
    SweepEvaluated s.rsw s.mc.mode (settleSweep s) := by
  have hrsw : (judgeUrgency (judgeStarvation s)).rsw = (evaluate (judgeStarvation s)).rsw :=
    congrArg State.rsw (judgeUrgency_of_urgent hpacing (urgent_eq_true h))
  have hmp : s.mp = (settleSweep s).mp := by simp
  exact ⟨judgeStarvation s, evaluate (judgeStarvation s), rfl, hmp, rfl, evaluate_evaluates _, hrsw⟩

end Sys2Proof.Machine
end

section
/-! The commands SET_ITEM and GET_ITEM (R170, R171): what a name selects, what each act answers, what the resets make of the items, and
the statements about both. -/

namespace Sys2Proof.Machine

/-! ## The names -/

/-- From code 6 on no name is that of a number: 6 names PART_IDENT, and the codes above it name nothing. -/
theorem itemArgument_of_six_le {code : Byte} (h : 6#8 ≤ code) :
    itemArgument code = some .partIdent ∨ itemArgument code = none := by
  have hne : ∀ k : Byte, k < 6#8 → code ≠ k := fun k hk he => absurd h (BitVec.not_le.mpr (he ▸ hk))
  by_cases hsix : code = 6#8
  · exact .inl (by rw [hsix]; rfl)
  · simp [itemArgument, hne, hsix]

/-! ## The acts -/

theorem setItem_done {code : Byte} {item : Item} {value : BitVec 32} (hi : itemArgument code = some item)
    (hv : itemAccepts item value = true) (s : State) :
    setItem code value s = answer .done (giveItem item value s) := by
  simp [setItem, hi, hv]

/-- A name that is no item, and a value that its item does not take, are refused alike. -/
theorem setItem_refusedArgument {code : Byte} {value : BitVec 32}
    (h : ∀ item, itemArgument code = some item → itemAccepts item value = false) (s : State) :
    setItem code value s = answer .refusedArgument s := by
  unfold setItem
  split
  next item hi => simp [h item hi]
  next => rfl

/-- The values beyond the ranges of Table 10-3, and the names that take no value. -/
theorem itemAccepts_eq_false {code : Byte} {value : BitVec 32}
    (h : (code = 1#8 ∧ 1023 < value.toNat) ∨ (code = 2#8 ∧ (value.toNat = 0 ∨ 65535 < value.toNat)) ∨
      (code = 3#8 ∧ 255 < value.toNat) ∨ (code = 4#8 ∧ (value.toNat = 0 ∨ 48 < value.toNat)) ∨
      (code = 5#8 ∧ 2 ^ 11 ≤ value.toNat) ∨ code = 0#8 ∨ 6#8 ≤ code)
    {item : Item} (hi : itemArgument code = some item) : itemAccepts item value = false := by
  obtain ⟨rfl, hv⟩ | ⟨rfl, hv⟩ | ⟨rfl, hv⟩ | ⟨rfl, hv⟩ | ⟨rfl, hv⟩ | rfl | hcode := h
  iterate 5
    · cases hi
      exact decide_eq_false (by omega)
  · cases hi
  · obtain hident | hnone := itemArgument_of_six_le hcode
    · cases hident.symm.trans hi
      rfl
    · cases hnone.symm.trans hi

theorem getItem_done {code : Byte} {item : Item} (hi : itemArgument code = some item) (s : State) :
    getItem code s = answerWith .done (.item (itemValue item s)) s := by
  simp [getItem, hi]

theorem getItem_refusedArgument {code : Byte} (hi : itemArgument code = none) (s : State) :
    getItem code s = answer .refusedArgument s := by
  simp [getItem, hi]

/-! ## SWEEP_URGENT_LEVEL -/

/-- The machine with another SWEEP_URGENT_LEVEL, before the judgements that follow in the same act. -/
def withUrgentLevel (value : BitVec 32) (s : State) : State :=
  { s with mli := { s.mli with items := { s.mli.items with sweepUrgentLevel := value } } }

theorem giveItem_sweepUrgentLevel (value : BitVec 32) (s : State) :
    giveItem .sweepUrgentLevel value s = settleSweep (withUrgentLevel value s) := rfl

/-- The starvation mark rests on the entries, the rules and the Ahead List, not on the level. -/
theorem starving_withUrgentLevel (value : BitVec 32) (s : State) :
    starving (withUrgentLevel value s) = starving s := rfl

/-- A new level writes the item, and its judgements reach no further than the sweep, its notices and the starvation mark. -/
theorem giveItem_sweepUrgentLevel_only (value : BitVec 32) (s : State) :
    giveItem .sweepUrgentLevel value s = { withUrgentLevel value s with
      starvation := (giveItem .sweepUrgentLevel value s).starvation,
      rsw := (giveItem .sweepUrgentLevel value s).rsw,
      nu := (giveItem .sweepUrgentLevel value s).nu } :=
  settleSweep_only (withUrgentLevel value s)

/-! ## The commands -/

/-- A SET_ITEM whose frame the receiver hears makes its act on what the frame finds. -/
theorem exec_setItem_heard {s₀ s : State} (h : FrameFinds s₀ s) (code : Byte) (value : BitVec 32) :
    exec (.setItem code value) s₀ = .next (setItem code value s) :=
  onFrame_heard h (setItem code value)

/-- A GET_ITEM whose frame the receiver hears makes its act on what the frame finds. -/
theorem exec_getItem_heard {s₀ s : State} (h : FrameFinds s₀ s) (code : Byte) :
    exec (.getItem code) s₀ = .next (getItem code s) :=
  onFrame_heard h (getItem code)

/-- Settles O33: the name and the range select between the refusal and the new value; of the items only SWEEP_URGENT_LEVEL and
NOTICE_ENABLES bring a judgement with them, and that of the level is `settleSweep`. -/
theorem setItemTakesValuesInRange : Obligations.SetItemTakesValuesInRange := by
  intro code value s₀ s hs
  rw [exec_setItem_heard hs]
  refine ⟨fun h => ?refused, ?gatherTimeout, ?memoryTimeout, ?sweepInterval, ?sweepUrgentLevel, ?noticeEnables⟩
  case refused =>
    rw [setItem_refusedArgument (fun _ hi => itemAccepts_eq_false h hi)]
    rfl
  case gatherTimeout =>
    rintro rfl hmax
    rw [setItem_done (item := .gatherTimeout) rfl (decide_eq_true hmax)]
    rfl
  case memoryTimeout =>
    rintro rfl hmin hmax
    rw [setItem_done (item := .memoryTimeout) rfl (decide_eq_true ⟨hmin, hmax⟩)]
    rfl
  case sweepInterval =>
    rintro rfl hmax
    rw [setItem_done (item := .sweepInterval) rfl (decide_eq_true hmax)]
    rfl
  case sweepUrgentLevel =>
    rintro rfl hmin hmax
    rw [setItem_done (item := .sweepUrgentLevel) rfl (decide_eq_true ⟨hmin, hmax⟩)]
    have honly := giveItem_sweepUrgentLevel_only value s
    refine ⟨_, rfl, ?items, ?answered, fun h => ?notPacing, fun h => ?ended, fun u hu h => ?evaluated,
      fun h hstarving => ?notUrgent, ?brokenFrame, ?only⟩
    case items | answered | brokenFrame | only => rw [honly]; rfl
    case notPacing =>
      rw [giveItem_sweepUrgentLevel, settleSweep_of_not_pacing (s := withUrgentLevel value s) h]
      exact ⟨rfl, rfl⟩
    case ended => exact settleSweep_engine_ne_pacing (s := withUrgentLevel value s) h
    case evaluated =>
      rw [← starving_withUrgentLevel value s] at h
      exact settleSweep_evaluated (s := withUrgentLevel value s) hu h
    case notUrgent =>
      rw [← starving_withUrgentLevel value s] at hstarving
      rw [giveItem_sweepUrgentLevel, settleSweep_of_not_urgent (s := withUrgentLevel value s) h hstarving]
      exact ⟨rfl, rfl⟩
  case noticeEnables =>
    rintro rfl hmax
    rw [setItem_done (item := .noticeEnables) rfl (decide_eq_true hmax)]
    rfl

/-! ## The resets -/

theorem abortLong_mli (s : State) : (abortLong s).mli = s.mli := by
  unfold abortLong; split <;> rfl

/-- A COMMAND_DONE leaves the enables of the notice line. -/
theorem abortLong_enables (s : State) : (abortLong s).nu.enables = s.nu.enables := by
  unfold abortLong
  split
  case h_1 => rfl
  all_goals simp

theorem judgeStall_enables (s : State) : (judgeStall s).nu.enables = s.nu.enables := by
  obtain hsame | ⟨-, -, hposted⟩ := judgeStall_cases s
  · rw [hsame]
  · rw [hposted, post_nu, postToNu_enables]

/-- A warm reset keeps the item store (R170). -/
theorem warmReset_items (s : State) : (warmReset s).mli.items = s.mli.items := by
  have hcleared : (clearTraffic (abortResponses (abortLong s))).mli = s.mli := abortLong_mli s
  unfold warmReset
  split
  · simp [hcleared]
  · exact congrArg Mli.items hcleared

/-- A warm reset keeps NOTICE_ENABLES (R170). -/
theorem warmReset_enables (s : State) : (warmReset s).nu.enables = s.nu.enables := by
  have hcleared : (clearTraffic (abortResponses (abortLong s))).nu.enables = s.nu.enables := abortLong_enables s
  unfold warmReset
  split
  · exact (judgeStall_enables _).trans hcleared
  · exact hcleared

/-- A power-on reset gives the items their defaults, whatever the frame receiver does (R170, R175). -/
theorem powerOn_items (u : Mli) : u.powerOn.items = Mli.reset.items := by
  unfold Mli.powerOn; split <;> rfl

/-- A RESET_BRIDGE whose frame the receiver hears resets what the frame finds, and is then answered (R169). -/
theorem exec_resetBridge_heard {s₀ s : State} (h : FrameFinds s₀ s) :
    exec .resetBridge s₀ = .next (answer .done (warmReset s)) :=
  onFrame_heard h (fun s => answer .done (warmReset s))

/-- Settles O32: the name selects the item whose value is answered; a power-on reset writes the defaults, and no part of a warm reset
writes an item. -/
theorem getItemAnswersTheItem : Obligations.GetItemAnswersTheItem := by
  refine ⟨fun code s₀ s hs => ?answer, fun s => ?powerOn, fun s₀ s hs => ?warm⟩
  case answer =>
    rw [exec_getItem_heard hs]
    split_ifs with h1 h2 h3 h4 h5 h6
    case neg =>
      rw [getItem_refusedArgument (by simp [itemArgument, h1, h2, h3, h4, h5, h6])]
      rfl
    all_goals
      subst code
      rw [getItem_done rfl]
      rfl
  case powerOn => exact ⟨powerOnState true s, rfl, rfl, powerOn_items s.mli⟩
  case warm => exact ⟨answer .done (warmReset s), exec_resetBridge_heard hs, warmReset_items s, warmReset_enables s⟩

end Sys2Proof.Machine
end

section
/-! The commands READ_STATUS, READ_SLOTS, READ_FLAGS, READ_COUNTERS and CLEAR_COUNTERS (R129, R172, R173): the counts of a status record
as sizes of sets, what each act answers, and the statements about them. -/

namespace Sys2Proof

variable {α : Type} {n : Nat}

/-- The indices found are as many as the set of the indices that satisfy the property. -/
theorem Table.length_indices (t : Table α n) (p : α → Bool) :
    (t.indices p).length = (Finset.univ.filter (fun i : Fin n => p (t.get i) = true)).card := by
  rw [← List.toFinset_card_of_nodup (t.indices_nodup p)]
  congr 1
  ext i
  simp

/-- The cells are the records in the order of their indices. -/
theorem Table.cells_eq_map_get (t : Table α n) : t.cells = (List.finRange n).map t.get :=
  List.ext_getElem (by simp [t.length_eq]) (fun k _ _ => by simp [Table.get])

theorem Table.countP_cells (t : Table α n) (p : α → Bool) : t.cells.countP p = (t.indices p).length := by
  rw [t.cells_eq_map_get, List.countP_map, List.countP_eq_length_filter]
  rfl

namespace Machine

/-! ## The counts of a status record -/

theorem entriesInUse_eq_card (l : Lat) :
    entriesInUse l = (Finset.univ.filter (fun i : Fin 32 => (l.entries.get i).isSome = true)).card :=
  l.entries.length_indices Option.isSome

theorem slotCount_eq_card (p : Slot → Bool) (m : Mp) :
    slotCount p m = (Finset.univ.filter (fun i : Fin 16 => p (m.slots.get i) = true)).card :=
  (m.slots.countP_cells p).trans (m.slots.length_indices p)

/-! ## The commands -/

theorem exec_readStatus_heard {s₀ s : State} (h : FrameFinds s₀ s) :
    exec .readStatus s₀ = .next (answerWith .done (.status (statusRecord s)) (markFrame false s)) :=
  onFrame_heard h (fun s => answerWith .done (.status (statusRecord s)) (markFrame false s))

theorem exec_readSlots_heard {s₀ s : State} (h : FrameFinds s₀ s) :
    exec .readSlots s₀ = .next (answerWith .done (.slots (s.mp.slots.map slotView)) s) :=
  onFrame_heard h (fun s => answerWith .done (.slots (s.mp.slots.map slotView)) s)

theorem exec_readFlags_heard {s₀ s : State} (h : FrameFinds s₀ s) :
    exec .readFlags s₀ = .next (answerWith .done (.flags s.ord.flags) s) :=
  onFrame_heard h (fun s => answerWith .done (.flags s.ord.flags) s)

theorem exec_readCounters_heard {s₀ s : State} (h : FrameFinds s₀ s) :
    exec .readCounters s₀ = .next (answerWith .done (.counters s.nu.counters) s) :=
  onFrame_heard h (fun s => answerWith .done (.counters s.nu.counters) s)

theorem exec_clearCounters_heard {s₀ s : State} (h : FrameFinds s₀ s) :
    exec .clearCounters s₀ = .next (answer .done (zeroCounters s)) :=
  onFrame_heard h (fun s => answer .done (zeroCounters s))

/-- Settles O34: the record is that of the act's state, with the mark as it stood before its clearing, and its counts are the sizes of
sets of indices. -/
theorem statusAndSlotsAreReported : Obligations.StatusAndSlotsAreReported := by
  intro s₀ s hs
  refine ⟨⟨s.mp.slots.map slotView, exec_readSlots_heard hs, fun i => ?view⟩,
    statusRecord s, exec_readStatus_heard hs, rfl, ?running, rfl, rfl, entriesInUse_eq_card s.lat,
    slotCount_eq_card slotBusy s.mp, slotCount_eq_card slotOrphaned s.mp, rfl, rfl, rfl⟩
  case view =>
    rw [Table.get_map]
    cases s.mp.slots.get i <;> rfl
  case running =>
    change runningCommand s.mc.running = _
    cases s.mc.running <;> rfl

/-- Settles O35: the heard frame answers with the field that the command reads, and CLEAR_COUNTERS writes the counters alone. -/
theorem flagsAndCountersAreReported : Obligations.FlagsAndCountersAreReported := fun _ _ hs =>
  ⟨exec_readFlags_heard hs, exec_readCounters_heard hs, exec_clearCounters_heard hs⟩

end Machine
end Sys2Proof
end

section
/-! What the next state of a command can be, said once: the act of an event, the act of a management frame on what it finds, a
power-on reset, or no act at all; and the induction over steps that every law uses. -/

namespace Sys2Proof.Machine

/-- The act of an event, made while no power-on reset is held. -/
def eventAct : Instr → Option (State → State)
  | .requestArrival q => some (arrive q)
  | .take time => some (takeAt time)
  | .grant time => some (fun s => grantOne (atTime time s))
  | .memoryLinkAccept => some acceptHead
  | .memoryResponse time r => some (fun s => receive r (atTime time s))
  | .slotDeadline slot => some (expireSlot slot)
  | .gatherDeadline i => some (gatherExpires i)
  | .pacingEnd => some pacingEnds
  | .suppressionDiscard => some discardNext
  | .readResponse => some sendReadResponse
  | .syncResponse => some sendSyncResponse
  | .flushComplete => some completeFlush
  | .noticeRemoved => some noticeTaken
  | _ => none

/-- The act of a management frame, made on what the frame finds. -/
def frameAct : Instr → Option (State → State)
  | .getItem code => some (getItem code)
  | .setItem code value => some (setItem code value)
  | .readStatus => some (fun s => answerWith .done (.status (statusRecord s)) (markFrame false s))
  | .readFlags => some (fun s => answerWith .done (.flags s.ord.flags) s)
  | .readCounters => some (fun s => answerWith .done (.counters s.nu.counters) s)
  | .clearCounters => some (fun s => answer .done (zeroCounters s))
  | .readSlots => some (fun s => answerWith .done (.slots (s.mp.slots.map slotView)) s)
  | .defineRegion index base size mode pattern => some (defineRegion index base size mode pattern)
  | .retireRegion index => some (retireRegion index)
  | .readRegion index => some (readRegion index)
  | .setRule index base limit requester scope suppress note =>
    some (setRule index base limit requester scope suppress note)
  | .clearRule index => some (clearRule index)
  | .readRule index => some (readRule index)
  | .goOnline => some goOnline
  | .quiesce => some quiesce
  | .resume => some resume
  | .flush => some flush
  | .resetBridge => some (fun s => answer .done (warmReset s))
  | .reclaimSlots => some reclaimSlots
  | .takeNotice => some takeNotice
  | .unknownCommand _ => some (answer .unknownCommand)
  | _ => none

/-- `s` with other requests on the link, another frame receiver, another moment and another queue of commands: what a command
without an act can leave. -/
def withoutAct (link : List Request) (frame : Frame) (broken : Bool) (now : Nat) (pending : List Instr) (s : State) : State :=
  { s with
    rqp := { s.rqp with link := link }, mli := { s.mli with frame := frame, brokenFrame := broken }, now := now,
    pending := pending }

/-- Every event but an arrival waits for the release of the power-on reset. -/
theorem exec_eventAct_guarded {c : Instr} {act : State → State} (h : eventAct c = some act)
    (hc : ∀ q, c ≠ .requestArrival q) (s : State) : exec c s = whenRunning s act := by
  cases c <;> cases h
  case requestArrival q => exact absurd rfl (hc q)
  all_goals rfl

theorem exec_requestArrival_released {s : State} (hs : s.held = false) (q : Request) :
    exec (.requestArrival q) s = .next (arrive q s) := by simp [exec, execRequestArrival, hs]

theorem exec_eventAct {c : Instr} {act : State → State} (h : eventAct c = some act) {s : State} (hs : s.held = false) :
    exec c s = .next (act s) := by
  by_cases hc : ∃ q, c = .requestArrival q
  · obtain ⟨q, rfl⟩ := hc
    cases h
    exact exec_requestArrival_released hs q
  · rw [exec_eventAct_guarded h (fun q hq => hc ⟨q, hq⟩), whenRunning_released hs]

/-- An event while the reset is held: a request joins the link, and nothing else happens (R158). -/
theorem exec_eventAct_held {c : Instr} {act : State → State} (h : eventAct c = some act) {s : State} (hs : s.held = true) :
    ∃ link, exec c s = .next { s with rqp := { s.rqp with link := link } } := by
  by_cases hc : ∃ q, c = .requestArrival q
  · obtain ⟨q, rfl⟩ := hc
    exact ⟨s.rqp.link ++ [q], by simp [exec, execRequestArrival, hs]⟩
  · exact ⟨s.rqp.link, by rw [exec_eventAct_guarded h (fun q hq => hc ⟨q, hq⟩), whenRunning_held hs]⟩

theorem exec_frameAct {c : Instr} {act : State → State} (h : frameAct c = some act) (s : State) :
    exec c s = onFrame s act := by
  cases c <;> cases h <;> rfl

/-- A command has the act of an event or of a frame, or is a broken frame or one of the two that concern the power-on reset. -/
theorem eventAct_or_frameAct (c : Instr) :
    (∃ act, eventAct c = some act) ∨ (∃ act, frameAct c = some act) ∨ (∃ cut, c = .brokenFrame cut) ∨
      c = .powerOnReset ∨ c = .resetReleased := by
  cases hevent : eventAct c with
  | some act => exact .inl ⟨act, rfl⟩
  | none =>
    cases hframe : frameAct c with
    | some act => exact .inr (.inl ⟨act, rfl⟩)
    | none =>
      cases c <;> cases hevent <;> cases hframe
      next cut => exact .inr (.inr (.inl ⟨cut, rfl⟩))
      · exact .inr (.inr (.inr (.inl rfl)))
      · exact .inr (.inr (.inr (.inr rfl)))

/-- A cut frame changes the frame receiver alone (R167, R175). -/
theorem exec_brokenFrame (cut : FrameCut) (s : State) : ∃ frame broken, exec (.brokenFrame cut) s =
    .next { s with mli := { s.mli with frame := frame, brokenFrame := broken } } := by
  have hframe : ∀ t, (∃ frame broken, t = { s with mli := { s.mli with frame := frame, brokenFrame := broken } }) →
      ∃ frame broken, (.next t : Host.Outcome State Fault Refusal) =
        .next { s with mli := { s.mli with frame := frame, brokenFrame := broken } } := by
    rintro t ⟨frame, broken, rfl⟩
    exact ⟨frame, broken, rfl⟩
  apply hframe
  split
  · unfold ignoredCut
    split
    · exact ⟨.ignoring, _, rfl⟩
    · split
      · exact ⟨.waiting, _, rfl⟩
      · exact ⟨_, _, rfl⟩
    · exact ⟨_, _, rfl⟩
  · unfold frameBroken
    split
    · exact ⟨_, _, rfl⟩
    · exact ⟨.waiting, true, rfl⟩
    · split
      · exact ⟨.waiting, true, rfl⟩
      · exact ⟨_, _, rfl⟩
    all_goals exact ⟨_, _, rfl⟩

/-- The next state of a command: of an event's act, of a frame's act on what the frame finds, of a power-on reset made or released,
or of no act. -/
theorem exec_cases {c : Instr} {s t : State} (h : exec c s = .next t) :
    (∃ act, eventAct c = some act ∧ s.held = false ∧ t = act s) ∨
    (∃ act, frameAct c = some act ∧ FrameFinds s (frameStart s) ∧ t = act (frameStart s)) ∨
    ((c = .powerOnReset ∨ c = .resetReleased) ∧ ∃ held, t = powerOnState held s) ∨
    ∃ link frame broken, t = withoutAct link frame broken s.now s.pending s := by
  obtain ⟨act, hact⟩ | ⟨act, hact⟩ | ⟨cut, rfl⟩ | rfl | rfl := eventAct_or_frameAct c
  · cases hheld : s.held
    · rw [exec_eventAct hact hheld] at h
      cases h
      exact .inl ⟨act, hact, rfl, rfl⟩
    · obtain ⟨link, hexec⟩ := exec_eventAct_held hact hheld
      cases hexec.symm.trans h
      exact .inr (.inr (.inr ⟨link, s.mli.frame, s.mli.brokenFrame, rfl⟩))
  · rw [exec_frameAct hact] at h
    obtain ⟨hfinds, rfl⟩ | ⟨-, rfl⟩ := onFrame_next h
    · exact .inr (.inl ⟨act, hact, hfinds, rfl⟩)
    · exact .inr (.inr (.inr ⟨s.rqp.link, _, s.mli.brokenFrame, rfl⟩))
  · obtain ⟨frame, broken, hexec⟩ := exec_brokenFrame cut s
    cases hexec.symm.trans h
    exact .inr (.inr (.inr ⟨s.rqp.link, frame, broken, rfl⟩))
  · cases h
    exact .inr (.inr (.inl ⟨.inl rfl, true, rfl⟩))
  · change (if s.held then _ else _) = _ at h
    split at h
    · cases h
      exact .inr (.inr (.inl ⟨.inr rfl, false, rfl⟩))
    · cases h
      exact .inr (.inr (.inr ⟨s.rqp.link, s.mli.frame, s.mli.brokenFrame, rfl⟩))

/-- What every step keeps: a property that the power-on values have, and that no act and nothing without an act takes away. -/
structure KeptByActs (P : State → Prop) : Prop where
  noAct : ∀ link frame broken now pending s, P s → P (withoutAct link frame broken now pending s)
  powerOn : ∀ held s, P (powerOnState held s)
  flushEnd : ∀ s, P s → P (frameStart s)
  event : ∀ c act s, eventAct c = some act → P s → P (act s)
  frame : ∀ c act s, frameAct c = some act → P s → P (act s)

theorem KeptByActs.exec {P : State → Prop} (hP : KeptByActs P) {c : Instr} {s t : State} (hs : P s)
    (h : exec c s = .next t) : P t := by
  obtain ⟨act, hact, -, rfl⟩ | ⟨act, hact, -, rfl⟩ | ⟨-, held, rfl⟩ | ⟨link, frame, broken, rfl⟩ := exec_cases h
  · exact hP.event c act s hact hs
  · exact hP.frame c act _ hact (hP.flushEnd s hs)
  · exact hP.powerOn held s
  · exact hP.noAct link frame broken s.now s.pending s hs

theorem KeptByActs.step {P : State → Prop} (hP : KeptByActs P) {s t : State} (hs : P s) (h : step s = .next t) : P t := by
  cases hpending : s.pending with
  | nil =>
    rw [step_nil hpending] at h
    cases h
    exact hP.noAct s.rqp.link s.mli.frame s.mli.brokenFrame (s.now + 1) s.pending s hs
  | cons c rest =>
    rw [step_cons hpending] at h
    exact hP.exec (hP.noAct s.rqp.link s.mli.frame s.mli.brokenFrame s.now rest s hs) h

/-! ## The take -/

/-- How a head that has passed is served: a READ in the lowest FREE context, a WRITE once entries and, for AOC, a WRT record are there,
a SYNC always (R141, R142). -/
theorem takeServed_cases {q : Request} {s t : State} (h : takeServed q s = some t) :
    (q.kind = .read ∧ ∃ c, lowestFreeContext s.rdp = some c ∧ t = takeRead q c s) ∨
    (q.kind = .write ∧ entriesNeeded s q ≤ freeEntries s.lat ∧
      ((q.aoc = true ∧ ∃ w, lowestFreeWrt s.rqp = some w ∧ t = takeAoc q w s) ∨ (q.aoc = false ∧ t = takePosted q s))) ∨
    (q.kind = .sync ∧ t = takeSync q s) := by
  unfold takeServed at h
  split at h
  · rename_i hk
    split at h
    · rename_i c hc
      cases h
      exact .inl ⟨hk, c, hc, rfl⟩
    · cases h
  · rename_i hk
    split at h
    · cases h
    · rename_i hfree
      refine .inr (.inl ⟨hk, Nat.le_of_not_lt hfree, ?_⟩)
      split at h
      · rename_i haoc
        split at h
        · rename_i w hw
          cases h
          exact .inl ⟨haoc, w, hw, rfl⟩
        · cases h
      · rename_i haoc
        cases h
        exact .inr ⟨by simpa using haoc, rfl⟩
  · rename_i hk
    cases h
    exact .inr (.inr ⟨hk, rfl⟩)
  · cases h

/-- The state in which a head that has passed is served: a WRITE makes the closes of the resource step first (R141). -/
def closedFor (q : Request) (s : State) : State := if q.kind = .write then resourceCloses q s else s

theorem closedFor_only (q : Request) (s : State) : closedFor q s = { s with lat := (closedFor q s).lat } := by
  unfold closedFor
  split
  · exact resourceCloses_only q s
  · rfl

@[simp] theorem closedFor_frame (q : Request) (s : State) :
    (closedFor q s).rqp = s.rqp ∧ (closedFor q s).starvation = s.starvation ∧ (closedFor q s).rdp = s.rdp ∧
    (closedFor q s).ord = s.ord ∧ (closedFor q s).rsw = s.rsw ∧ (closedFor q s).mp = s.mp ∧ (closedFor q s).mc = s.mc ∧
    (closedFor q s).nu = s.nu ∧ (closedFor q s).mli = s.mli ∧ (closedFor q s).held = s.held ∧
    (closedFor q s).now = s.now ∧ (closedFor q s).out = s.out ∧ (closedFor q s).pending = s.pending := by
  rw [closedFor_only]; simp

/-- What a TAKE does with a head: it stays, is answered OFFLINE or refused, waits for resources, or is served (R137 to R142). -/
theorem takeHead_cases (q : Request) (s : State) :
    (judge s q = .stays ∧ takeHead q s = s) ∨
    (judge s q = .offline ∧ takeHead q s = leaveIntake (respond q.requester q.tag .offline [] s)) ∨
    (∃ status cause, judge s q = .refused status cause ∧ takeHead q s = leaveIntake (takeRefused q status cause s)) ∨
    (judge s q = .passes ∧ takeServed q (closedFor q s) = none ∧ takeHead q s = closedFor q s) ∨
    ∃ t, judge s q = .passes ∧ takeServed q (closedFor q s) = some t ∧ takeHead q s = leaveIntake t := by
  unfold takeHead
  split
  · rename_i h; exact .inl ⟨h, rfl⟩
  · rename_i h; exact .inr (.inl ⟨h, rfl⟩)
  · rename_i status cause h; exact .inr (.inr (.inl ⟨status, cause, h, rfl⟩))
  · rename_i h
    change _ ∨ _ ∨ _ ∨ (_ ∧ _ ∧ (match takeServed q (closedFor q s) with
      | some t => leaveIntake t
      | none => closedFor q s) = _) ∨ ∃ t, _ ∧ _ ∧ (match takeServed q (closedFor q s) with
      | some t => leaveIntake t
      | none => closedFor q s) = _
    cases ht : takeServed q (closedFor q s) with
    | none => exact .inr (.inr (.inr (.inl ⟨h, rfl, rfl⟩)))
    | some t => exact .inr (.inr (.inr (.inr ⟨t, h, rfl, rfl⟩)))

/-! ## Responses and deadlines of slots -/

theorem receive_fetch {s : State} {r : MemoryResponse} {i : Fin 32} {line deadline : Nat}
    (h : s.mp.slots.get r.slot = .busy (.fetchOf i) line true deadline) :
    receive r s = fetchReturned r.slot i line r s := by simp only [receive, h]

theorem receive_write {s : State} {r : MemoryResponse} {i : Fin 32} {line deadline : Nat}
    (h : s.mp.slots.get r.slot = .busy (.writeOf i) line true deadline) :
    receive r s = writeReturned r.slot i line r s := by simp only [receive, h]

theorem receive_read {s : State} {r : MemoryResponse} {c : Fin 16} {n line deadline : Nat}
    (h : s.mp.slots.get r.slot = .busy (.readOf c n) line true deadline) :
    receive r s = readReturned r.slot c n line r s := by simp only [receive, h]

theorem receive_sweep {s : State} {r : MemoryResponse} {line deadline : Nat}
    (h : s.mp.slots.get r.slot = .busy .sweepEngine line true deadline) :
    receive r s = sweepReturned r.slot line r s := by simp only [receive, h]

theorem receive_late {s : State} {r : MemoryResponse} {purpose : Purpose} {line : Nat}
    (h : s.mp.slots.get r.slot = .orphaned purpose line true) :
    receive r s = lateResponse r.slot purpose line s := by simp only [receive, h]

/-- What a response meets: a sent request of one of the four kinds of owner, one whose slot is ORPHANED, or none (Table 6-6). -/
theorem receive_cases (r : MemoryResponse) (s : State) :
    (∃ i line deadline, s.mp.slots.get r.slot = .busy (.fetchOf i) line true deadline ∧
      receive r s = fetchReturned r.slot i line r s) ∨
    (∃ i line deadline, s.mp.slots.get r.slot = .busy (.writeOf i) line true deadline ∧
      receive r s = writeReturned r.slot i line r s) ∨
    (∃ c n line deadline, s.mp.slots.get r.slot = .busy (.readOf c n) line true deadline ∧
      receive r s = readReturned r.slot c n line r s) ∨
    (∃ line deadline, s.mp.slots.get r.slot = .busy .sweepEngine line true deadline ∧
      receive r s = sweepReturned r.slot line r s) ∨
    (∃ purpose line, s.mp.slots.get r.slot = .orphaned purpose line true ∧
      receive r s = lateResponse r.slot purpose line s) ∨
    receive r s = post (.strayResponse r.slot) s := by
  cases h : s.mp.slots.get r.slot with
  | free => exact .inr (.inr (.inr (.inr (.inr (receive_stray (.inl h))))))
  | busy owner line sent deadline =>
    cases sent with
    | false => exact .inr (.inr (.inr (.inr (.inr (receive_stray (.inr (.inl ⟨owner, line, deadline, h⟩)))))))
    | true =>
      cases owner with
      | fetchOf i => exact .inl ⟨i, line, deadline, rfl, receive_fetch h⟩
      | writeOf i => exact .inr (.inl ⟨i, line, deadline, rfl, receive_write h⟩)
      | readOf c n => exact .inr (.inr (.inl ⟨c, n, line, deadline, rfl, receive_read h⟩))
      | sweepEngine => exact .inr (.inr (.inr (.inl ⟨line, deadline, rfl, receive_sweep h⟩)))
  | orphaned purpose line sent =>
    cases sent with
    | false => exact .inr (.inr (.inr (.inr (.inr (receive_stray (.inr (.inr ⟨purpose, line, h⟩)))))))
    | true => exact .inr (.inr (.inr (.inr (.inl ⟨purpose, line, rfl, receive_late h⟩))))

theorem fetchReturned_failed {r : MemoryResponse} (h : readData r = none) (slot : Fin 16) (i : Fin 32) (line : Nat)
    (s : State) : fetchReturned slot i line r s =
      afterEntryEnd (claimEnded line (endEntry i (.lost .fetchFault) (freeSlot slot s))) := by
  simp only [fetchReturned, h]

/-- A counted response: one more corrected read when it was corrected. -/
def countCorrected (corrected : Bool) (s : State) : State := if corrected then countOne .correctedReads s else s

theorem countCorrected_nu (corrected : Bool) (s : State) :
    ∃ counters, countCorrected corrected s = { s with nu := { s.nu with counters := counters } } := by
  cases corrected <;> exact ⟨_, rfl⟩

theorem fetchReturned_merged {r : MemoryResponse} {memory : Table Byte 64} {corrected : Bool} {slot : Fin 16} {i : Fin 32}
    {line : Nat} {s : State} {e : Entry} (h : readData r = some (memory, corrected)) (he : s.lat.entries.get i = some e) :
    fetchReturned slot i line r s = fetchToWrite slot i line e memory (countCorrected corrected s) := by
  simp only [fetchReturned, h]
  cases corrected
  · simp [countCorrected, he]
  · have he' : (countOne .correctedReads s).lat.entries.get i = some e := he
    simp [countCorrected, he]

theorem fetchReturned_free {r : MemoryResponse} {memory : Table Byte 64} {corrected : Bool} {slot : Fin 16} {i : Fin 32}
    {line : Nat} {s : State} (h : readData r = some (memory, corrected)) (he : s.lat.entries.get i = none) :
    fetchReturned slot i line r s = countCorrected corrected s := by
  simp only [fetchReturned, h]
  cases corrected
  · simp [countCorrected, he]
  · simp [countCorrected, he]

/-- The piece that a read's response ends: with the line of memory, or failed. -/
def pieceReturned (c : Fin 16) (n : Nat) (r : MemoryResponse) (s : State) : State :=
  match readData r with
  | some (memory, corrected) => returnPiece c n memory (countCorrected corrected s)
  | none => failPiece c n .dataError .dataFault s

theorem readReturned_eq (slot c : Fin 16) (n line : Nat) (r : MemoryResponse) (s : State) :
    readReturned slot c n line r s = settleSweep (testDrain (claimEnded line (pieceReturned c n r (freeSlot slot s)))) := by
  unfold readReturned pieceReturned
  cases readData r <;> rfl

/-- A slot whose deadline passes becomes ORPHANED at its deadline (R125). -/
def orphanSlot (slot : Fin 16) (owner : Owner) (line : Nat) (sent : Bool) (deadline : Nat) (s : State) : State :=
  { s with
    mp := { s.mp with slots := s.mp.slots.set slot (.orphaned (ownerPurpose owner) line sent) },
    now := max s.now deadline }

/-- The state of a SLOT_DEADLINE once the owner has been told and the stall judged. -/
def toldOrphan (slot : Fin 16) (owner : Owner) (line : Nat) (sent : Bool) (deadline : Nat) (s : State) : State :=
  judgeStall (ownerTimeout owner (orphanSlot slot owner line sent deadline s))

theorem expireSlot_busy {s : State} {slot : Fin 16} {owner : Owner} {line : Nat} {sent : Bool} {deadline : Nat}
    (h : s.mp.slots.get slot = .busy owner line sent deadline) : expireSlot slot s =
      if ownerIsEntry owner then afterEntryEnd (toldOrphan slot owner line sent deadline s)
      else settleSweep (testDrain (toldOrphan slot owner line sent deadline s)) := by
  unfold expireSlot
  rw [h]
  rfl

theorem expireSlot_not_busy {s : State} {slot : Fin 16} (h : slotBusy (s.mp.slots.get slot) = false) :
    expireSlot slot s = s := by
  unfold expireSlot
  split
  · rename_i hb; rw [hb] at h; cases h
  all_goals rfl

/-- A SLOT_DEADLINE is that of a BUSY slot, or changes nothing. -/
theorem expireSlot_cases (slot : Fin 16) (s : State) :
    (∃ owner line sent deadline, s.mp.slots.get slot = .busy owner line sent deadline ∧ expireSlot slot s =
      if ownerIsEntry owner then afterEntryEnd (toldOrphan slot owner line sent deadline s)
      else settleSweep (testDrain (toldOrphan slot owner line sent deadline s))) ∨ expireSlot slot s = s := by
  cases h : s.mp.slots.get slot with
  | busy owner line sent deadline => exact .inl ⟨owner, line, sent, deadline, rfl, expireSlot_busy h⟩
  | free => exact .inr (expireSlot_not_busy (by rw [h]; rfl))
  | orphaned purpose line sent => exact .inr (expireSlot_not_busy (by rw [h]; rfl))

end Sys2Proof.Machine
end

section
/-! What each act leaves as it was: `X_only` says which blocks the act X can change, `X_frame` the same block by block. -/

namespace Sys2Proof.Machine

theorem arrive_only (q : Request) (s : State) :
    arrive q s = { s with rqp := (arrive q s).rqp, lat := (arrive q s).lat, starvation := (arrive q s).starvation } := by
  unfold arrive
  dsimp only
  split
  · rw [judgeHead_only]; rfl
  · rfl

@[simp] theorem arrive_frame (q : Request) (s : State) :
    (arrive q s).rdp = s.rdp ∧
    (arrive q s).ord = s.ord ∧
    (arrive q s).rsw = s.rsw ∧
    (arrive q s).mp = s.mp ∧
    (arrive q s).mc = s.mc ∧
    (arrive q s).nu = s.nu ∧
    (arrive q s).mli = s.mli ∧
    (arrive q s).held = s.held ∧
    (arrive q s).now = s.now ∧
    (arrive q s).out = s.out ∧
    (arrive q s).pending = s.pending := by
  rw [arrive_only]; simp

theorem takeAt_only (time : Nat) (s : State) :
    takeAt time s = { s with rqp := (takeAt time s).rqp, lat := (takeAt time s).lat, starvation := (takeAt time s).starvation, rdp := (takeAt time s).rdp, ord := (takeAt time s).ord, nu := (takeAt time s).nu, now := (takeAt time s).now, out := (takeAt time s).out } := by
  unfold takeAt
  dsimp only
  split
  · rfl
  · rw [judgeStarvation, takeHead_only]; rfl

@[simp] theorem takeAt_frame (time : Nat) (s : State) :
    (takeAt time s).rsw = s.rsw ∧
    (takeAt time s).mp = s.mp ∧
    (takeAt time s).mc = s.mc ∧
    (takeAt time s).mli = s.mli ∧
    (takeAt time s).held = s.held ∧
    (takeAt time s).pending = s.pending := by
  rw [takeAt_only]; simp

theorem grantTo_only (slot : Fin 16) (cls : ArbiterClass) (s : State) :
    grantTo slot cls s = { s with lat := (grantTo slot cls s).lat, rdp := (grantTo slot cls s).rdp, rsw := (grantTo slot cls s).rsw, mp := (grantTo slot cls s).mp, nu := (grantTo slot cls s).nu } := by
  unfold grantTo
  cases cls
  · dsimp only; rw [grantWrite_only]
  · dsimp only; rw [grantRead_only]
  · dsimp only; rw [grantSweep_only]

@[simp] theorem grantTo_frame (slot : Fin 16) (cls : ArbiterClass) (s : State) :
    (grantTo slot cls s).rqp = s.rqp ∧
    (grantTo slot cls s).starvation = s.starvation ∧
    (grantTo slot cls s).ord = s.ord ∧
    (grantTo slot cls s).mc = s.mc ∧
    (grantTo slot cls s).mli = s.mli ∧
    (grantTo slot cls s).held = s.held ∧
    (grantTo slot cls s).now = s.now ∧
    (grantTo slot cls s).out = s.out ∧
    (grantTo slot cls s).pending = s.pending := by
  rw [grantTo_only]; simp

theorem grantOne_only (s : State) :
    grantOne s = { s with lat := (grantOne s).lat, starvation := (grantOne s).starvation, rdp := (grantOne s).rdp, rsw := (grantOne s).rsw, mp := (grantOne s).mp, nu := (grantOne s).nu } := by
  unfold grantOne
  split
  · rw [settleSweep_only, grantTo_only]
  · rfl

@[simp] theorem grantOne_frame (s : State) :
    (grantOne s).rqp = s.rqp ∧
    (grantOne s).ord = s.ord ∧
    (grantOne s).mc = s.mc ∧
    (grantOne s).mli = s.mli ∧
    (grantOne s).held = s.held ∧
    (grantOne s).now = s.now ∧
    (grantOne s).out = s.out ∧
    (grantOne s).pending = s.pending := by
  rw [grantOne_only]; simp

theorem acceptHead_only (s : State) :
    acceptHead s = { s with mp := (acceptHead s).mp, out := (acceptHead s).out } := by
  unfold acceptHead; split <;> rfl

@[simp] theorem acceptHead_frame (s : State) :
    (acceptHead s).rqp = s.rqp ∧
    (acceptHead s).lat = s.lat ∧
    (acceptHead s).starvation = s.starvation ∧
    (acceptHead s).rdp = s.rdp ∧
    (acceptHead s).ord = s.ord ∧
    (acceptHead s).rsw = s.rsw ∧
    (acceptHead s).mc = s.mc ∧
    (acceptHead s).nu = s.nu ∧
    (acceptHead s).mli = s.mli ∧
    (acceptHead s).held = s.held ∧
    (acceptHead s).now = s.now ∧
    (acceptHead s).pending = s.pending := by
  rw [acceptHead_only]; simp

theorem aheadAfterWrite_only (i : Fin 32) (written : Bool) (s : State) :
    aheadAfterWrite i written s = { s with rsw := (aheadAfterWrite i written s).rsw } := by
  unfold aheadAfterWrite
  split
  · split
    · split <;> rfl
    · rfl
  · rfl

@[simp] theorem aheadAfterWrite_frame (i : Fin 32) (written : Bool) (s : State) :
    (aheadAfterWrite i written s).rqp = s.rqp ∧
    (aheadAfterWrite i written s).lat = s.lat ∧
    (aheadAfterWrite i written s).starvation = s.starvation ∧
    (aheadAfterWrite i written s).rdp = s.rdp ∧
    (aheadAfterWrite i written s).ord = s.ord ∧
    (aheadAfterWrite i written s).mp = s.mp ∧
    (aheadAfterWrite i written s).mc = s.mc ∧
    (aheadAfterWrite i written s).nu = s.nu ∧
    (aheadAfterWrite i written s).mli = s.mli ∧
    (aheadAfterWrite i written s).held = s.held ∧
    (aheadAfterWrite i written s).now = s.now ∧
    (aheadAfterWrite i written s).out = s.out ∧
    (aheadAfterWrite i written s).pending = s.pending := by
  rw [aheadAfterWrite_only]; simp

theorem afterEntryEnd_only (s : State) :
    afterEntryEnd s = { s with lat := (afterEntryEnd s).lat, starvation := (afterEntryEnd s).starvation, rsw := (afterEntryEnd s).rsw, mc := (afterEntryEnd s).mc, nu := (afterEntryEnd s).nu } := by
  unfold afterEntryEnd
  rw [settleSweep_only, testDrain_only, judgeHead_only]

@[simp] theorem afterEntryEnd_frame (s : State) :
    (afterEntryEnd s).rqp = s.rqp ∧
    (afterEntryEnd s).rdp = s.rdp ∧
    (afterEntryEnd s).ord = s.ord ∧
    (afterEntryEnd s).mp = s.mp ∧
    (afterEntryEnd s).mli = s.mli ∧
    (afterEntryEnd s).held = s.held ∧
    (afterEntryEnd s).now = s.now ∧
    (afterEntryEnd s).out = s.out ∧
    (afterEntryEnd s).pending = s.pending := by
  rw [afterEntryEnd_only]; simp

theorem ownerTimeout_only (owner : Owner) (s : State) :
    ownerTimeout owner s = { s with rqp := (ownerTimeout owner s).rqp, lat := (ownerTimeout owner s).lat, starvation := (ownerTimeout owner s).starvation, rdp := (ownerTimeout owner s).rdp, ord := (ownerTimeout owner s).ord, rsw := (ownerTimeout owner s).rsw, mc := (ownerTimeout owner s).mc, nu := (ownerTimeout owner s).nu, out := (ownerTimeout owner s).out } := by
  cases owner
  · simp only [ownerTimeout]; rw [endEntry_only]
  · simp only [ownerTimeout]; rw [endEntry_only, aheadAfterWrite_only]
  · simp only [ownerTimeout]; rw [failPiece_only]
  · simp only [ownerTimeout]; rw [sweepWriteEnd_only]

@[simp] theorem ownerTimeout_frame (owner : Owner) (s : State) :
    (ownerTimeout owner s).mp = s.mp ∧
    (ownerTimeout owner s).mli = s.mli ∧
    (ownerTimeout owner s).held = s.held ∧
    (ownerTimeout owner s).now = s.now ∧
    (ownerTimeout owner s).pending = s.pending := by
  rw [ownerTimeout_only]; simp

theorem fetchReturned_only (slot : Fin 16) (i : Fin 32) (line : Nat) (r : MemoryResponse) (s : State) :
    fetchReturned slot i line r s = { s with rqp := (fetchReturned slot i line r s).rqp, lat := (fetchReturned slot i line r s).lat, starvation := (fetchReturned slot i line r s).starvation, ord := (fetchReturned slot i line r s).ord, rsw := (fetchReturned slot i line r s).rsw, mp := (fetchReturned slot i line r s).mp, mc := (fetchReturned slot i line r s).mc, nu := (fetchReturned slot i line r s).nu, out := (fetchReturned slot i line r s).out } := by
  cases h : readData r with
  | none => rw [fetchReturned_failed h, afterEntryEnd_only, claimEnded_only, endEntry_only]; rfl
  | some data =>
    obtain ⟨memory, corrected⟩ := data
    obtain ⟨counters, hcount⟩ := countCorrected_nu corrected s
    cases he : s.lat.entries.get i with
    | none => rw [fetchReturned_free h he, hcount]
    | some e => rw [fetchReturned_merged h he, hcount]; rfl

@[simp] theorem fetchReturned_frame (slot : Fin 16) (i : Fin 32) (line : Nat) (r : MemoryResponse) (s : State) :
    (fetchReturned slot i line r s).rdp = s.rdp ∧
    (fetchReturned slot i line r s).mli = s.mli ∧
    (fetchReturned slot i line r s).held = s.held ∧
    (fetchReturned slot i line r s).now = s.now ∧
    (fetchReturned slot i line r s).pending = s.pending := by
  rw [fetchReturned_only]; simp

theorem writeReturned_only (slot : Fin 16) (i : Fin 32) (line : Nat) (r : MemoryResponse) (s : State) :
    writeReturned slot i line r s = { s with rqp := (writeReturned slot i line r s).rqp, lat := (writeReturned slot i line r s).lat, starvation := (writeReturned slot i line r s).starvation, ord := (writeReturned slot i line r s).ord, rsw := (writeReturned slot i line r s).rsw, mp := (writeReturned slot i line r s).mp, mc := (writeReturned slot i line r s).mc, nu := (writeReturned slot i line r s).nu, out := (writeReturned slot i line r s).out } := by
  unfold writeReturned
  dsimp only
  rw [afterEntryEnd_only, claimEnded_only, endEntry_only, aheadAfterWrite_only]; rfl

@[simp] theorem writeReturned_frame (slot : Fin 16) (i : Fin 32) (line : Nat) (r : MemoryResponse) (s : State) :
    (writeReturned slot i line r s).rdp = s.rdp ∧
    (writeReturned slot i line r s).mli = s.mli ∧
    (writeReturned slot i line r s).held = s.held ∧
    (writeReturned slot i line r s).now = s.now ∧
    (writeReturned slot i line r s).pending = s.pending := by
  rw [writeReturned_only]; simp

theorem pieceReturned_only (c : Fin 16) (n : Nat) (r : MemoryResponse) (s : State) :
    pieceReturned c n r s = { s with rdp := (pieceReturned c n r s).rdp, nu := (pieceReturned c n r s).nu } := by
  unfold pieceReturned
  split
  · rename_i corrected _
    obtain ⟨counters, h⟩ := countCorrected_nu corrected s
    rw [returnPiece_only, h]
  · exact failPiece_only _ _ _ _ s

@[simp] theorem pieceReturned_frame (c : Fin 16) (n : Nat) (r : MemoryResponse) (s : State) :
    (pieceReturned c n r s).rqp = s.rqp ∧
    (pieceReturned c n r s).lat = s.lat ∧
    (pieceReturned c n r s).starvation = s.starvation ∧
    (pieceReturned c n r s).ord = s.ord ∧
    (pieceReturned c n r s).rsw = s.rsw ∧
    (pieceReturned c n r s).mp = s.mp ∧
    (pieceReturned c n r s).mc = s.mc ∧
    (pieceReturned c n r s).mli = s.mli ∧
    (pieceReturned c n r s).held = s.held ∧
    (pieceReturned c n r s).now = s.now ∧
    (pieceReturned c n r s).out = s.out ∧
    (pieceReturned c n r s).pending = s.pending := by
  rw [pieceReturned_only]; simp

theorem orphanSlot_only (slot : Fin 16) (owner : Owner) (line : Nat) (sent : Bool) (deadline : Nat) (s : State) :
    orphanSlot slot owner line sent deadline s = { s with mp := (orphanSlot slot owner line sent deadline s).mp, now := (orphanSlot slot owner line sent deadline s).now } := by
  rfl

@[simp] theorem orphanSlot_frame (slot : Fin 16) (owner : Owner) (line : Nat) (sent : Bool) (deadline : Nat) (s : State) :
    (orphanSlot slot owner line sent deadline s).rqp = s.rqp ∧
    (orphanSlot slot owner line sent deadline s).lat = s.lat ∧
    (orphanSlot slot owner line sent deadline s).starvation = s.starvation ∧
    (orphanSlot slot owner line sent deadline s).rdp = s.rdp ∧
    (orphanSlot slot owner line sent deadline s).ord = s.ord ∧
    (orphanSlot slot owner line sent deadline s).rsw = s.rsw ∧
    (orphanSlot slot owner line sent deadline s).mc = s.mc ∧
    (orphanSlot slot owner line sent deadline s).nu = s.nu ∧
    (orphanSlot slot owner line sent deadline s).mli = s.mli ∧
    (orphanSlot slot owner line sent deadline s).held = s.held ∧
    (orphanSlot slot owner line sent deadline s).out = s.out ∧
    (orphanSlot slot owner line sent deadline s).pending = s.pending := by
  rw [orphanSlot_only]; simp

theorem toldOrphan_only (slot : Fin 16) (owner : Owner) (line : Nat) (sent : Bool) (deadline : Nat) (s : State) :
    toldOrphan slot owner line sent deadline s = { s with rqp := (toldOrphan slot owner line sent deadline s).rqp, lat := (toldOrphan slot owner line sent deadline s).lat, starvation := (toldOrphan slot owner line sent deadline s).starvation, rdp := (toldOrphan slot owner line sent deadline s).rdp, ord := (toldOrphan slot owner line sent deadline s).ord, rsw := (toldOrphan slot owner line sent deadline s).rsw, mp := (toldOrphan slot owner line sent deadline s).mp, mc := (toldOrphan slot owner line sent deadline s).mc, nu := (toldOrphan slot owner line sent deadline s).nu, now := (toldOrphan slot owner line sent deadline s).now, out := (toldOrphan slot owner line sent deadline s).out } := by
  unfold toldOrphan
  rw [judgeStall_only, ownerTimeout_only]; rfl

@[simp] theorem toldOrphan_frame (slot : Fin 16) (owner : Owner) (line : Nat) (sent : Bool) (deadline : Nat) (s : State) :
    (toldOrphan slot owner line sent deadline s).mli = s.mli ∧
    (toldOrphan slot owner line sent deadline s).held = s.held ∧
    (toldOrphan slot owner line sent deadline s).pending = s.pending := by
  rw [toldOrphan_only]; simp

theorem readReturned_only (slot c : Fin 16) (i line : Nat) (r : MemoryResponse) (s : State) :
    readReturned slot c i line r s = { s with starvation := (readReturned slot c i line r s).starvation, rdp := (readReturned slot c i line r s).rdp, rsw := (readReturned slot c i line r s).rsw, mp := (readReturned slot c i line r s).mp, mc := (readReturned slot c i line r s).mc, nu := (readReturned slot c i line r s).nu } := by
  rw [readReturned_eq, settleSweep_only, testDrain_only, claimEnded_only, pieceReturned_only]; rfl

@[simp] theorem readReturned_frame (slot c : Fin 16) (i line : Nat) (r : MemoryResponse) (s : State) :
    (readReturned slot c i line r s).rqp = s.rqp ∧
    (readReturned slot c i line r s).lat = s.lat ∧
    (readReturned slot c i line r s).ord = s.ord ∧
    (readReturned slot c i line r s).mli = s.mli ∧
    (readReturned slot c i line r s).held = s.held ∧
    (readReturned slot c i line r s).now = s.now ∧
    (readReturned slot c i line r s).out = s.out ∧
    (readReturned slot c i line r s).pending = s.pending := by
  rw [readReturned_only]; simp

theorem sweepReturned_only (slot : Fin 16) (line : Nat) (r : MemoryResponse) (s : State) :
    sweepReturned slot line r s = { s with starvation := (sweepReturned slot line r s).starvation, rsw := (sweepReturned slot line r s).rsw, mp := (sweepReturned slot line r s).mp, mc := (sweepReturned slot line r s).mc, nu := (sweepReturned slot line r s).nu } := by
  unfold sweepReturned
  dsimp only
  rw [settleSweep_only, testDrain_only, claimEnded_only, sweepWriteEnd_only]; rfl

@[simp] theorem sweepReturned_frame (slot : Fin 16) (line : Nat) (r : MemoryResponse) (s : State) :
    (sweepReturned slot line r s).rqp = s.rqp ∧
    (sweepReturned slot line r s).lat = s.lat ∧
    (sweepReturned slot line r s).rdp = s.rdp ∧
    (sweepReturned slot line r s).ord = s.ord ∧
    (sweepReturned slot line r s).mli = s.mli ∧
    (sweepReturned slot line r s).held = s.held ∧
    (sweepReturned slot line r s).now = s.now ∧
    (sweepReturned slot line r s).out = s.out ∧
    (sweepReturned slot line r s).pending = s.pending := by
  rw [sweepReturned_only]; simp

theorem lateResponse_only (slot : Fin 16) (purpose : Purpose) (line : Nat) (s : State) :
    lateResponse slot purpose line s = { s with starvation := (lateResponse slot purpose line s).starvation, rsw := (lateResponse slot purpose line s).rsw, mp := (lateResponse slot purpose line s).mp, nu := (lateResponse slot purpose line s).nu } := by
  unfold lateResponse
  rw [settleSweep_only, claimEnded_only]; rfl

@[simp] theorem lateResponse_frame (slot : Fin 16) (purpose : Purpose) (line : Nat) (s : State) :
    (lateResponse slot purpose line s).rqp = s.rqp ∧
    (lateResponse slot purpose line s).lat = s.lat ∧
    (lateResponse slot purpose line s).rdp = s.rdp ∧
    (lateResponse slot purpose line s).ord = s.ord ∧
    (lateResponse slot purpose line s).mc = s.mc ∧
    (lateResponse slot purpose line s).mli = s.mli ∧
    (lateResponse slot purpose line s).held = s.held ∧
    (lateResponse slot purpose line s).now = s.now ∧
    (lateResponse slot purpose line s).out = s.out ∧
    (lateResponse slot purpose line s).pending = s.pending := by
  rw [lateResponse_only]; simp

theorem receive_only (r : MemoryResponse) (s : State) :
    receive r s = { s with rqp := (receive r s).rqp, lat := (receive r s).lat, starvation := (receive r s).starvation, rdp := (receive r s).rdp, ord := (receive r s).ord, rsw := (receive r s).rsw, mp := (receive r s).mp, mc := (receive r s).mc, nu := (receive r s).nu, out := (receive r s).out } := by
  obtain ⟨_, _, _, -, h⟩ | ⟨_, _, _, -, h⟩ | ⟨_, _, _, _, -, h⟩ | ⟨_, _, -, h⟩ | ⟨_, _, -, h⟩ | h := receive_cases r s
  · rw [h, fetchReturned_only]
  · rw [h, writeReturned_only]
  · rw [h, readReturned_only]
  · rw [h, sweepReturned_only]
  · rw [h, lateResponse_only]
  · rw [h]; rfl

@[simp] theorem receive_frame (r : MemoryResponse) (s : State) :
    (receive r s).mli = s.mli ∧
    (receive r s).held = s.held ∧
    (receive r s).now = s.now ∧
    (receive r s).pending = s.pending := by
  rw [receive_only]; simp

theorem expireSlot_only (slot : Fin 16) (s : State) :
    expireSlot slot s = { s with rqp := (expireSlot slot s).rqp, lat := (expireSlot slot s).lat, starvation := (expireSlot slot s).starvation, rdp := (expireSlot slot s).rdp, ord := (expireSlot slot s).ord, rsw := (expireSlot slot s).rsw, mp := (expireSlot slot s).mp, mc := (expireSlot slot s).mc, nu := (expireSlot slot s).nu, now := (expireSlot slot s).now, out := (expireSlot slot s).out } := by
  obtain ⟨owner, line, sent, deadline, -, h⟩ | h := expireSlot_cases slot s
  · rw [h]
    split
    · rw [afterEntryEnd_only, toldOrphan_only]
    · rw [settleSweep_only, testDrain_only, toldOrphan_only]
  · rw [h]

@[simp] theorem expireSlot_frame (slot : Fin 16) (s : State) :
    (expireSlot slot s).mli = s.mli ∧
    (expireSlot slot s).held = s.held ∧
    (expireSlot slot s).pending = s.pending := by
  rw [expireSlot_only]; simp

theorem gatherExpires_only (i : Fin 32) (s : State) :
    gatherExpires i s = { s with lat := (gatherExpires i s).lat, starvation := (gatherExpires i s).starvation, now := (gatherExpires i s).now } := by
  unfold gatherExpires; split <;> rfl

@[simp] theorem gatherExpires_frame (i : Fin 32) (s : State) :
    (gatherExpires i s).rqp = s.rqp ∧
    (gatherExpires i s).rdp = s.rdp ∧
    (gatherExpires i s).ord = s.ord ∧
    (gatherExpires i s).rsw = s.rsw ∧
    (gatherExpires i s).mp = s.mp ∧
    (gatherExpires i s).mc = s.mc ∧
    (gatherExpires i s).nu = s.nu ∧
    (gatherExpires i s).mli = s.mli ∧
    (gatherExpires i s).held = s.held ∧
    (gatherExpires i s).out = s.out ∧
    (gatherExpires i s).pending = s.pending := by
  rw [gatherExpires_only]; simp

theorem pacingEnds_only (s : State) :
    pacingEnds s = { s with starvation := (pacingEnds s).starvation, rsw := (pacingEnds s).rsw, nu := (pacingEnds s).nu, now := (pacingEnds s).now } := by
  unfold pacingEnds
  split
  · rw [settleSweep_only, evaluate_only]; rfl
  all_goals rfl

@[simp] theorem pacingEnds_frame (s : State) :
    (pacingEnds s).rqp = s.rqp ∧
    (pacingEnds s).lat = s.lat ∧
    (pacingEnds s).rdp = s.rdp ∧
    (pacingEnds s).ord = s.ord ∧
    (pacingEnds s).mp = s.mp ∧
    (pacingEnds s).mc = s.mc ∧
    (pacingEnds s).mli = s.mli ∧
    (pacingEnds s).held = s.held ∧
    (pacingEnds s).out = s.out ∧
    (pacingEnds s).pending = s.pending := by
  rw [pacingEnds_only]; simp

theorem discardNext_only (s : State) :
    discardNext s = { s with rqp := (discardNext s).rqp, lat := (discardNext s).lat, starvation := (discardNext s).starvation, ord := (discardNext s).ord, mc := (discardNext s).mc, nu := (discardNext s).nu, out := (discardNext s).out } := by
  unfold discardNext
  split
  · rfl
  · dsimp only
    split
    · rw [judgeStarvation, testDrain_only, judgeHead_only, discardEntry, endEntry_only]; rfl
    · rfl

@[simp] theorem discardNext_frame (s : State) :
    (discardNext s).rdp = s.rdp ∧
    (discardNext s).rsw = s.rsw ∧
    (discardNext s).mp = s.mp ∧
    (discardNext s).mli = s.mli ∧
    (discardNext s).held = s.held ∧
    (discardNext s).now = s.now ∧
    (discardNext s).pending = s.pending := by
  rw [discardNext_only]; simp

theorem sendReadResponse_only (s : State) :
    sendReadResponse s = { s with rqp := (sendReadResponse s).rqp, lat := (sendReadResponse s).lat, starvation := (sendReadResponse s).starvation, rdp := (sendReadResponse s).rdp, mc := (sendReadResponse s).mc, nu := (sendReadResponse s).nu, out := (sendReadResponse s).out } := by
  unfold sendReadResponse
  split
  · rfl
  · dsimp only
    split
    · rw [judgeStarvation, testDrain_only, judgeHead_only]; rfl
    · rfl

@[simp] theorem sendReadResponse_frame (s : State) :
    (sendReadResponse s).ord = s.ord ∧
    (sendReadResponse s).rsw = s.rsw ∧
    (sendReadResponse s).mp = s.mp ∧
    (sendReadResponse s).mli = s.mli ∧
    (sendReadResponse s).held = s.held ∧
    (sendReadResponse s).now = s.now ∧
    (sendReadResponse s).pending = s.pending := by
  rw [sendReadResponse_only]; simp

theorem sendSyncResponse_only (s : State) :
    sendSyncResponse s = { s with rqp := (sendSyncResponse s).rqp, ord := (sendSyncResponse s).ord, mc := (sendSyncResponse s).mc, nu := (sendSyncResponse s).nu, out := (sendSyncResponse s).out } := by
  unfold sendSyncResponse
  split
  · rfl
  · dsimp only
    split
    · rw [testDrain_only]; rfl
    · rfl

@[simp] theorem sendSyncResponse_frame (s : State) :
    (sendSyncResponse s).lat = s.lat ∧
    (sendSyncResponse s).starvation = s.starvation ∧
    (sendSyncResponse s).rdp = s.rdp ∧
    (sendSyncResponse s).rsw = s.rsw ∧
    (sendSyncResponse s).mp = s.mp ∧
    (sendSyncResponse s).mli = s.mli ∧
    (sendSyncResponse s).held = s.held ∧
    (sendSyncResponse s).now = s.now ∧
    (sendSyncResponse s).pending = s.pending := by
  rw [sendSyncResponse_only]; simp

theorem noticeTaken_only (s : State) :
    noticeTaken s = { s with nu := (noticeTaken s).nu, mli := (noticeTaken s).mli } := by
  unfold noticeTaken; split <;> rfl

@[simp] theorem noticeTaken_frame (s : State) :
    (noticeTaken s).rqp = s.rqp ∧
    (noticeTaken s).lat = s.lat ∧
    (noticeTaken s).starvation = s.starvation ∧
    (noticeTaken s).rdp = s.rdp ∧
    (noticeTaken s).ord = s.ord ∧
    (noticeTaken s).rsw = s.rsw ∧
    (noticeTaken s).mp = s.mp ∧
    (noticeTaken s).mc = s.mc ∧
    (noticeTaken s).held = s.held ∧
    (noticeTaken s).now = s.now ∧
    (noticeTaken s).out = s.out ∧
    (noticeTaken s).pending = s.pending := by
  rw [noticeTaken_only]; simp

theorem evaluateOnline_only (s : State) :
    evaluateOnline s = { s with rsw := (evaluateOnline s).rsw, nu := (evaluateOnline s).nu } := by
  unfold evaluateOnline
  split
  · rfl
  all_goals exact evaluate_only s

@[simp] theorem evaluateOnline_frame (s : State) :
    (evaluateOnline s).rqp = s.rqp ∧
    (evaluateOnline s).lat = s.lat ∧
    (evaluateOnline s).starvation = s.starvation ∧
    (evaluateOnline s).rdp = s.rdp ∧
    (evaluateOnline s).ord = s.ord ∧
    (evaluateOnline s).mp = s.mp ∧
    (evaluateOnline s).mc = s.mc ∧
    (evaluateOnline s).mli = s.mli ∧
    (evaluateOnline s).held = s.held ∧
    (evaluateOnline s).now = s.now ∧
    (evaluateOnline s).out = s.out ∧
    (evaluateOnline s).pending = s.pending := by
  rw [evaluateOnline_only]; simp

theorem comeOnline_only (s : State) :
    comeOnline s = { s with lat := (comeOnline s).lat, starvation := (comeOnline s).starvation, rsw := (comeOnline s).rsw, mc := (comeOnline s).mc, nu := (comeOnline s).nu } := by
  unfold comeOnline
  rw [settleSweep_only, evaluateOnline_only, judgeHead_only]; rfl

@[simp] theorem comeOnline_frame (s : State) :
    (comeOnline s).rqp = s.rqp ∧
    (comeOnline s).rdp = s.rdp ∧
    (comeOnline s).ord = s.ord ∧
    (comeOnline s).mp = s.mp ∧
    (comeOnline s).mli = s.mli ∧
    (comeOnline s).held = s.held ∧
    (comeOnline s).now = s.now ∧
    (comeOnline s).out = s.out ∧
    (comeOnline s).pending = s.pending := by
  rw [comeOnline_only]; simp

theorem goOnline_only (s : State) :
    goOnline s = { s with lat := (goOnline s).lat, starvation := (goOnline s).starvation, rsw := (goOnline s).rsw, mc := (goOnline s).mc, nu := (goOnline s).nu, mli := (goOnline s).mli, out := (goOnline s).out } := by
  unfold goOnline
  split
  · rw [comeOnline_only]; rfl
  · rfl

@[simp] theorem goOnline_frame (s : State) :
    (goOnline s).rqp = s.rqp ∧
    (goOnline s).rdp = s.rdp ∧
    (goOnline s).ord = s.ord ∧
    (goOnline s).mp = s.mp ∧
    (goOnline s).held = s.held ∧
    (goOnline s).now = s.now ∧
    (goOnline s).pending = s.pending := by
  rw [goOnline_only]; simp

theorem abandonDrain_only (s : State) :
    abandonDrain s = { s with mc := (abandonDrain s).mc, nu := (abandonDrain s).nu } := by
  unfold abandonDrain; split <;> rfl

@[simp] theorem abandonDrain_frame (s : State) :
    (abandonDrain s).rqp = s.rqp ∧
    (abandonDrain s).lat = s.lat ∧
    (abandonDrain s).starvation = s.starvation ∧
    (abandonDrain s).rdp = s.rdp ∧
    (abandonDrain s).ord = s.ord ∧
    (abandonDrain s).rsw = s.rsw ∧
    (abandonDrain s).mp = s.mp ∧
    (abandonDrain s).mli = s.mli ∧
    (abandonDrain s).held = s.held ∧
    (abandonDrain s).now = s.now ∧
    (abandonDrain s).out = s.out ∧
    (abandonDrain s).pending = s.pending := by
  rw [abandonDrain_only]; simp

theorem resume_only (s : State) :
    resume s = { s with lat := (resume s).lat, starvation := (resume s).starvation, rsw := (resume s).rsw, mc := (resume s).mc, nu := (resume s).nu, mli := (resume s).mli, out := (resume s).out } := by
  unfold resume
  split
  · rw [comeOnline_only, abandonDrain_only]; rfl
  · rfl

@[simp] theorem resume_frame (s : State) :
    (resume s).rqp = s.rqp ∧
    (resume s).rdp = s.rdp ∧
    (resume s).ord = s.ord ∧
    (resume s).mp = s.mp ∧
    (resume s).held = s.held ∧
    (resume s).now = s.now ∧
    (resume s).pending = s.pending := by
  rw [resume_only]; simp

theorem engineLeaves_only (s : State) :
    engineLeaves s = { s with rsw := (engineLeaves s).rsw } := by
  unfold engineLeaves; split <;> rfl

@[simp] theorem engineLeaves_frame (s : State) :
    (engineLeaves s).rqp = s.rqp ∧
    (engineLeaves s).lat = s.lat ∧
    (engineLeaves s).starvation = s.starvation ∧
    (engineLeaves s).rdp = s.rdp ∧
    (engineLeaves s).ord = s.ord ∧
    (engineLeaves s).mp = s.mp ∧
    (engineLeaves s).mc = s.mc ∧
    (engineLeaves s).nu = s.nu ∧
    (engineLeaves s).mli = s.mli ∧
    (engineLeaves s).held = s.held ∧
    (engineLeaves s).now = s.now ∧
    (engineLeaves s).out = s.out ∧
    (engineLeaves s).pending = s.pending := by
  rw [engineLeaves_only]; simp

theorem startDrain_only (s : State) :
    startDrain s = { s with lat := (startDrain s).lat, starvation := (startDrain s).starvation, rsw := (startDrain s).rsw, mc := (startDrain s).mc, nu := (startDrain s).nu, mli := (startDrain s).mli, out := (startDrain s).out } := by
  unfold startDrain
  rw [judgeStarvation, testDrain_only, engineLeaves_only]; rfl

@[simp] theorem startDrain_frame (s : State) :
    (startDrain s).rqp = s.rqp ∧
    (startDrain s).rdp = s.rdp ∧
    (startDrain s).ord = s.ord ∧
    (startDrain s).mp = s.mp ∧
    (startDrain s).held = s.held ∧
    (startDrain s).now = s.now ∧
    (startDrain s).pending = s.pending := by
  rw [startDrain_only]; simp

theorem quiesce_only (s : State) :
    quiesce s = { s with lat := (quiesce s).lat, starvation := (quiesce s).starvation, rsw := (quiesce s).rsw, mc := (quiesce s).mc, nu := (quiesce s).nu, mli := (quiesce s).mli, out := (quiesce s).out } := by
  unfold quiesce
  split
  · split
    · exact startDrain_only s
    · rfl
  · rfl

@[simp] theorem quiesce_frame (s : State) :
    (quiesce s).rqp = s.rqp ∧
    (quiesce s).rdp = s.rdp ∧
    (quiesce s).ord = s.ord ∧
    (quiesce s).mp = s.mp ∧
    (quiesce s).held = s.held ∧
    (quiesce s).now = s.now ∧
    (quiesce s).pending = s.pending := by
  rw [quiesce_only]; simp

theorem flush_only (s : State) :
    flush s = { s with lat := (flush s).lat, starvation := (flush s).starvation, mc := (flush s).mc, mli := (flush s).mli, out := (flush s).out } := by
  unfold flush
  split
  · split <;> rfl
  · rfl

@[simp] theorem flush_frame (s : State) :
    (flush s).rqp = s.rqp ∧
    (flush s).rdp = s.rdp ∧
    (flush s).ord = s.ord ∧
    (flush s).rsw = s.rsw ∧
    (flush s).mp = s.mp ∧
    (flush s).nu = s.nu ∧
    (flush s).held = s.held ∧
    (flush s).now = s.now ∧
    (flush s).pending = s.pending := by
  rw [flush_only]; simp

theorem reclaimSlots_only (s : State) :
    reclaimSlots s = { s with starvation := (reclaimSlots s).starvation, mp := (reclaimSlots s).mp, mli := (reclaimSlots s).mli, out := (reclaimSlots s).out } := by
  unfold reclaimSlots; split <;> rfl

@[simp] theorem reclaimSlots_frame (s : State) :
    (reclaimSlots s).rqp = s.rqp ∧
    (reclaimSlots s).lat = s.lat ∧
    (reclaimSlots s).rdp = s.rdp ∧
    (reclaimSlots s).ord = s.ord ∧
    (reclaimSlots s).rsw = s.rsw ∧
    (reclaimSlots s).mc = s.mc ∧
    (reclaimSlots s).nu = s.nu ∧
    (reclaimSlots s).held = s.held ∧
    (reclaimSlots s).now = s.now ∧
    (reclaimSlots s).pending = s.pending := by
  rw [reclaimSlots_only]; simp

theorem giveItem_only (item : Item) (value : BitVec 32) (s : State) :
    giveItem item value s = { s with starvation := (giveItem item value s).starvation, rsw := (giveItem item value s).rsw, nu := (giveItem item value s).nu, mli := (giveItem item value s).mli } := by
  cases item
  case sweepUrgentLevel => rw [giveItem_sweepUrgentLevel_only]; rfl
  all_goals rfl

@[simp] theorem giveItem_frame (item : Item) (value : BitVec 32) (s : State) :
    (giveItem item value s).rqp = s.rqp ∧
    (giveItem item value s).lat = s.lat ∧
    (giveItem item value s).rdp = s.rdp ∧
    (giveItem item value s).ord = s.ord ∧
    (giveItem item value s).mp = s.mp ∧
    (giveItem item value s).mc = s.mc ∧
    (giveItem item value s).held = s.held ∧
    (giveItem item value s).now = s.now ∧
    (giveItem item value s).out = s.out ∧
    (giveItem item value s).pending = s.pending := by
  rw [giveItem_only]; simp

theorem setItem_only (code : Byte) (value : BitVec 32) (s : State) :
    setItem code value s = { s with starvation := (setItem code value s).starvation, rsw := (setItem code value s).rsw, nu := (setItem code value s).nu, mli := (setItem code value s).mli, out := (setItem code value s).out } := by
  unfold setItem
  split
  · split
    · rw [giveItem_only]; rfl
    · rfl
  · rfl

@[simp] theorem setItem_frame (code : Byte) (value : BitVec 32) (s : State) :
    (setItem code value s).rqp = s.rqp ∧
    (setItem code value s).lat = s.lat ∧
    (setItem code value s).rdp = s.rdp ∧
    (setItem code value s).ord = s.ord ∧
    (setItem code value s).mp = s.mp ∧
    (setItem code value s).mc = s.mc ∧
    (setItem code value s).held = s.held ∧
    (setItem code value s).now = s.now ∧
    (setItem code value s).pending = s.pending := by
  rw [setItem_only]; simp

theorem evaluateAfterDefine_only (s : State) :
    evaluateAfterDefine s = { s with rsw := (evaluateAfterDefine s).rsw, nu := (evaluateAfterDefine s).nu } := by
  unfold evaluateAfterDefine
  split
  · split
    iterate 3 · exact evaluate_only s
    iterate 2 · rfl
  · rfl

@[simp] theorem evaluateAfterDefine_frame (s : State) :
    (evaluateAfterDefine s).rqp = s.rqp ∧
    (evaluateAfterDefine s).lat = s.lat ∧
    (evaluateAfterDefine s).starvation = s.starvation ∧
    (evaluateAfterDefine s).rdp = s.rdp ∧
    (evaluateAfterDefine s).ord = s.ord ∧
    (evaluateAfterDefine s).mp = s.mp ∧
    (evaluateAfterDefine s).mc = s.mc ∧
    (evaluateAfterDefine s).mli = s.mli ∧
    (evaluateAfterDefine s).held = s.held ∧
    (evaluateAfterDefine s).now = s.now ∧
    (evaluateAfterDefine s).out = s.out ∧
    (evaluateAfterDefine s).pending = s.pending := by
  rw [evaluateAfterDefine_only]; simp

theorem defineRegion_only (index : Byte) (base : BitVec 40) (size : BitVec 32) (mode : Byte) (pattern : Table Byte 8) (s : State) :
    defineRegion index base size mode pattern s = { s with starvation := (defineRegion index base size mode pattern s).starvation, rsw := (defineRegion index base size mode pattern s).rsw, nu := (defineRegion index base size mode pattern s).nu, mli := (defineRegion index base size mode pattern s).mli, out := (defineRegion index base size mode pattern s).out } := by
  unfold defineRegion
  dsimp only
  split
  · split
    · split
      · rw [settleSweep_only, evaluateAfterDefine_only]; rfl
      · rfl
    · rfl
  · rfl

@[simp] theorem defineRegion_frame (index : Byte) (base : BitVec 40) (size : BitVec 32) (mode : Byte) (pattern : Table Byte 8) (s : State) :
    (defineRegion index base size mode pattern s).rqp = s.rqp ∧
    (defineRegion index base size mode pattern s).lat = s.lat ∧
    (defineRegion index base size mode pattern s).rdp = s.rdp ∧
    (defineRegion index base size mode pattern s).ord = s.ord ∧
    (defineRegion index base size mode pattern s).mp = s.mp ∧
    (defineRegion index base size mode pattern s).mc = s.mc ∧
    (defineRegion index base size mode pattern s).held = s.held ∧
    (defineRegion index base size mode pattern s).now = s.now ∧
    (defineRegion index base size mode pattern s).pending = s.pending := by
  rw [defineRegion_only]; simp

theorem retireRegion_only (index : Byte) (s : State) :
    retireRegion index s = { s with starvation := (retireRegion index s).starvation, rsw := (retireRegion index s).rsw, mli := (retireRegion index s).mli, out := (retireRegion index s).out } := by
  unfold retireRegion removeRegion
  split
  · split
    · split <;> rfl
    · rfl
  · rfl

@[simp] theorem retireRegion_frame (index : Byte) (s : State) :
    (retireRegion index s).rqp = s.rqp ∧
    (retireRegion index s).lat = s.lat ∧
    (retireRegion index s).rdp = s.rdp ∧
    (retireRegion index s).ord = s.ord ∧
    (retireRegion index s).mp = s.mp ∧
    (retireRegion index s).mc = s.mc ∧
    (retireRegion index s).nu = s.nu ∧
    (retireRegion index s).held = s.held ∧
    (retireRegion index s).now = s.now ∧
    (retireRegion index s).pending = s.pending := by
  rw [retireRegion_only]; simp

theorem getItem_only (code : Byte) (s : State) :
    getItem code s = { s with mli := (getItem code s).mli, out := (getItem code s).out } := by
  unfold getItem; split <;> rfl

@[simp] theorem getItem_frame (code : Byte) (s : State) :
    (getItem code s).rqp = s.rqp ∧
    (getItem code s).lat = s.lat ∧
    (getItem code s).starvation = s.starvation ∧
    (getItem code s).rdp = s.rdp ∧
    (getItem code s).ord = s.ord ∧
    (getItem code s).rsw = s.rsw ∧
    (getItem code s).mp = s.mp ∧
    (getItem code s).mc = s.mc ∧
    (getItem code s).nu = s.nu ∧
    (getItem code s).held = s.held ∧
    (getItem code s).now = s.now ∧
    (getItem code s).pending = s.pending := by
  rw [getItem_only]; simp

theorem readRegion_only (index : Byte) (s : State) :
    readRegion index s = { s with mli := (readRegion index s).mli, out := (readRegion index s).out } := by
  unfold readRegion; split <;> rfl

@[simp] theorem readRegion_frame (index : Byte) (s : State) :
    (readRegion index s).rqp = s.rqp ∧
    (readRegion index s).lat = s.lat ∧
    (readRegion index s).starvation = s.starvation ∧
    (readRegion index s).rdp = s.rdp ∧
    (readRegion index s).ord = s.ord ∧
    (readRegion index s).rsw = s.rsw ∧
    (readRegion index s).mp = s.mp ∧
    (readRegion index s).mc = s.mc ∧
    (readRegion index s).nu = s.nu ∧
    (readRegion index s).held = s.held ∧
    (readRegion index s).now = s.now ∧
    (readRegion index s).pending = s.pending := by
  rw [readRegion_only]; simp

theorem readRule_only (index : Byte) (s : State) :
    readRule index s = { s with mli := (readRule index s).mli, out := (readRule index s).out } := by
  unfold readRule; split <;> rfl

@[simp] theorem readRule_frame (index : Byte) (s : State) :
    (readRule index s).rqp = s.rqp ∧
    (readRule index s).lat = s.lat ∧
    (readRule index s).starvation = s.starvation ∧
    (readRule index s).rdp = s.rdp ∧
    (readRule index s).ord = s.ord ∧
    (readRule index s).rsw = s.rsw ∧
    (readRule index s).mp = s.mp ∧
    (readRule index s).mc = s.mc ∧
    (readRule index s).nu = s.nu ∧
    (readRule index s).held = s.held ∧
    (readRule index s).now = s.now ∧
    (readRule index s).pending = s.pending := by
  rw [readRule_only]; simp

theorem setRule_only (index : Byte) (base limit : BitVec 40) (requester scope suppress note : Byte) (s : State) :
    setRule index base limit requester scope suppress note s = { s with ord := (setRule index base limit requester scope suppress note s).ord, mli := (setRule index base limit requester scope suppress note s).mli, out := (setRule index base limit requester scope suppress note s).out } := by
  unfold setRule
  split
  · split <;> rfl
  · rfl

@[simp] theorem setRule_frame (index : Byte) (base limit : BitVec 40) (requester scope suppress note : Byte) (s : State) :
    (setRule index base limit requester scope suppress note s).rqp = s.rqp ∧
    (setRule index base limit requester scope suppress note s).lat = s.lat ∧
    (setRule index base limit requester scope suppress note s).starvation = s.starvation ∧
    (setRule index base limit requester scope suppress note s).rdp = s.rdp ∧
    (setRule index base limit requester scope suppress note s).rsw = s.rsw ∧
    (setRule index base limit requester scope suppress note s).mp = s.mp ∧
    (setRule index base limit requester scope suppress note s).mc = s.mc ∧
    (setRule index base limit requester scope suppress note s).nu = s.nu ∧
    (setRule index base limit requester scope suppress note s).held = s.held ∧
    (setRule index base limit requester scope suppress note s).now = s.now ∧
    (setRule index base limit requester scope suppress note s).pending = s.pending := by
  rw [setRule_only]; simp

theorem clearRule_only (index : Byte) (s : State) :
    clearRule index s = { s with ord := (clearRule index s).ord, mli := (clearRule index s).mli, out := (clearRule index s).out } := by
  unfold clearRule
  split
  · split <;> rfl
  · rfl

@[simp] theorem clearRule_frame (index : Byte) (s : State) :
    (clearRule index s).rqp = s.rqp ∧
    (clearRule index s).lat = s.lat ∧
    (clearRule index s).starvation = s.starvation ∧
    (clearRule index s).rdp = s.rdp ∧
    (clearRule index s).rsw = s.rsw ∧
    (clearRule index s).mp = s.mp ∧
    (clearRule index s).mc = s.mc ∧
    (clearRule index s).nu = s.nu ∧
    (clearRule index s).held = s.held ∧
    (clearRule index s).now = s.now ∧
    (clearRule index s).pending = s.pending := by
  rw [clearRule_only]; simp

theorem takeNotice_only (s : State) :
    takeNotice s = { s with mli := (takeNotice s).mli, out := (takeNotice s).out } := by
  unfold takeNotice; split <;> rfl

@[simp] theorem takeNotice_frame (s : State) :
    (takeNotice s).rqp = s.rqp ∧
    (takeNotice s).lat = s.lat ∧
    (takeNotice s).starvation = s.starvation ∧
    (takeNotice s).rdp = s.rdp ∧
    (takeNotice s).ord = s.ord ∧
    (takeNotice s).rsw = s.rsw ∧
    (takeNotice s).mp = s.mp ∧
    (takeNotice s).mc = s.mc ∧
    (takeNotice s).nu = s.nu ∧
    (takeNotice s).held = s.held ∧
    (takeNotice s).now = s.now ∧
    (takeNotice s).pending = s.pending := by
  rw [takeNotice_only]; simp

theorem markFrame_only (broken : Bool) (s : State) :
    markFrame broken s = { s with mli := (markFrame broken s).mli } := by
  rfl

@[simp] theorem markFrame_frame (broken : Bool) (s : State) :
    (markFrame broken s).rqp = s.rqp ∧
    (markFrame broken s).lat = s.lat ∧
    (markFrame broken s).starvation = s.starvation ∧
    (markFrame broken s).rdp = s.rdp ∧
    (markFrame broken s).ord = s.ord ∧
    (markFrame broken s).rsw = s.rsw ∧
    (markFrame broken s).mp = s.mp ∧
    (markFrame broken s).mc = s.mc ∧
    (markFrame broken s).nu = s.nu ∧
    (markFrame broken s).held = s.held ∧
    (markFrame broken s).now = s.now ∧
    (markFrame broken s).out = s.out ∧
    (markFrame broken s).pending = s.pending := by
  rw [markFrame_only]; simp

theorem zeroCounters_only (s : State) :
    zeroCounters s = { s with nu := (zeroCounters s).nu } := by
  rfl

@[simp] theorem zeroCounters_frame (s : State) :
    (zeroCounters s).rqp = s.rqp ∧
    (zeroCounters s).lat = s.lat ∧
    (zeroCounters s).starvation = s.starvation ∧
    (zeroCounters s).rdp = s.rdp ∧
    (zeroCounters s).ord = s.ord ∧
    (zeroCounters s).rsw = s.rsw ∧
    (zeroCounters s).mp = s.mp ∧
    (zeroCounters s).mc = s.mc ∧
    (zeroCounters s).mli = s.mli ∧
    (zeroCounters s).held = s.held ∧
    (zeroCounters s).now = s.now ∧
    (zeroCounters s).out = s.out ∧
    (zeroCounters s).pending = s.pending := by
  rw [zeroCounters_only]; simp

theorem unqueue_only (i : Fin 32) (s : State) :
    unqueue i s = { s with lat := (unqueue i s).lat } := by
  rfl

@[simp] theorem unqueue_frame (i : Fin 32) (s : State) :
    (unqueue i s).rqp = s.rqp ∧
    (unqueue i s).starvation = s.starvation ∧
    (unqueue i s).rdp = s.rdp ∧
    (unqueue i s).ord = s.ord ∧
    (unqueue i s).rsw = s.rsw ∧
    (unqueue i s).mp = s.mp ∧
    (unqueue i s).mc = s.mc ∧
    (unqueue i s).nu = s.nu ∧
    (unqueue i s).mli = s.mli ∧
    (unqueue i s).held = s.held ∧
    (unqueue i s).now = s.now ∧
    (unqueue i s).out = s.out ∧
    (unqueue i s).pending = s.pending := by
  rw [unqueue_only]; simp

theorem discardEntry_only (i : Fin 32) (rule : Fin 8) (s : State) :
    discardEntry i rule s = { s with rqp := (discardEntry i rule s).rqp, lat := (discardEntry i rule s).lat, ord := (discardEntry i rule s).ord, mc := (discardEntry i rule s).mc, nu := (discardEntry i rule s).nu, out := (discardEntry i rule s).out } := by
  unfold discardEntry; rw [endEntry_only]; rfl

@[simp] theorem discardEntry_frame (i : Fin 32) (rule : Fin 8) (s : State) :
    (discardEntry i rule s).starvation = s.starvation ∧
    (discardEntry i rule s).rdp = s.rdp ∧
    (discardEntry i rule s).rsw = s.rsw ∧
    (discardEntry i rule s).mp = s.mp ∧
    (discardEntry i rule s).mli = s.mli ∧
    (discardEntry i rule s).held = s.held ∧
    (discardEntry i rule s).now = s.now ∧
    (discardEntry i rule s).pending = s.pending := by
  rw [discardEntry_only]; simp

theorem answerContext_only (c : Fin 16) (x : Context) (s : State) :
    answerContext c x s = { s with rqp := (answerContext c x s).rqp, rdp := (answerContext c x s).rdp, out := (answerContext c x s).out } := by
  rfl

@[simp] theorem answerContext_frame (c : Fin 16) (x : Context) (s : State) :
    (answerContext c x s).lat = s.lat ∧
    (answerContext c x s).starvation = s.starvation ∧
    (answerContext c x s).ord = s.ord ∧
    (answerContext c x s).rsw = s.rsw ∧
    (answerContext c x s).mp = s.mp ∧
    (answerContext c x s).mc = s.mc ∧
    (answerContext c x s).nu = s.nu ∧
    (answerContext c x s).mli = s.mli ∧
    (answerContext c x s).held = s.held ∧
    (answerContext c x s).now = s.now ∧
    (answerContext c x s).pending = s.pending := by
  rw [answerContext_only]; simp

theorem answerSync_only (r : Requester) (x : SyncRecord) (s : State) :
    answerSync r x s = { s with rqp := (answerSync r x s).rqp, ord := (answerSync r x s).ord, out := (answerSync r x s).out } := by
  rfl

@[simp] theorem answerSync_frame (r : Requester) (x : SyncRecord) (s : State) :
    (answerSync r x s).lat = s.lat ∧
    (answerSync r x s).starvation = s.starvation ∧
    (answerSync r x s).rdp = s.rdp ∧
    (answerSync r x s).rsw = s.rsw ∧
    (answerSync r x s).mp = s.mp ∧
    (answerSync r x s).mc = s.mc ∧
    (answerSync r x s).nu = s.nu ∧
    (answerSync r x s).mli = s.mli ∧
    (answerSync r x s).held = s.held ∧
    (answerSync r x s).now = s.now ∧
    (answerSync r x s).pending = s.pending := by
  rw [answerSync_only]; simp

theorem setMode_only (m : Mode) (s : State) :
    setMode m s = { s with mc := (setMode m s).mc } := by
  rfl

@[simp] theorem setMode_frame (m : Mode) (s : State) :
    (setMode m s).rqp = s.rqp ∧
    (setMode m s).lat = s.lat ∧
    (setMode m s).starvation = s.starvation ∧
    (setMode m s).rdp = s.rdp ∧
    (setMode m s).ord = s.ord ∧
    (setMode m s).rsw = s.rsw ∧
    (setMode m s).mp = s.mp ∧
    (setMode m s).nu = s.nu ∧
    (setMode m s).mli = s.mli ∧
    (setMode m s).held = s.held ∧
    (setMode m s).now = s.now ∧
    (setMode m s).out = s.out ∧
    (setMode m s).pending = s.pending := by
  rw [setMode_only]; simp

theorem startLong_only (r : Running) (s : State) :
    startLong r s = { s with mc := (startLong r s).mc } := by
  rfl

@[simp] theorem startLong_frame (r : Running) (s : State) :
    (startLong r s).rqp = s.rqp ∧
    (startLong r s).lat = s.lat ∧
    (startLong r s).starvation = s.starvation ∧
    (startLong r s).rdp = s.rdp ∧
    (startLong r s).ord = s.ord ∧
    (startLong r s).rsw = s.rsw ∧
    (startLong r s).mp = s.mp ∧
    (startLong r s).nu = s.nu ∧
    (startLong r s).mli = s.mli ∧
    (startLong r s).held = s.held ∧
    (startLong r s).now = s.now ∧
    (startLong r s).out = s.out ∧
    (startLong r s).pending = s.pending := by
  rw [startLong_only]; simp

theorem removeRegion_only (k : Fin 8) (s : State) :
    removeRegion k s = { s with rsw := (removeRegion k s).rsw, starvation := (removeRegion k s).starvation } := by
  unfold removeRegion; split <;> rfl

@[simp] theorem removeRegion_frame (k : Fin 8) (s : State) :
    (removeRegion k s).rqp = s.rqp ∧
    (removeRegion k s).lat = s.lat ∧
    (removeRegion k s).rdp = s.rdp ∧
    (removeRegion k s).ord = s.ord ∧
    (removeRegion k s).mp = s.mp ∧
    (removeRegion k s).mc = s.mc ∧
    (removeRegion k s).nu = s.nu ∧
    (removeRegion k s).mli = s.mli ∧
    (removeRegion k s).held = s.held ∧
    (removeRegion k s).now = s.now ∧
    (removeRegion k s).out = s.out ∧
    (removeRegion k s).pending = s.pending := by
  rw [removeRegion_only]; simp

theorem fetchToWrite_only (slot : Fin 16) (i : Fin 32) (line : Nat) (e : Entry) (memory : Table Byte 64) (s : State) :
    fetchToWrite slot i line e memory s = { s with lat := (fetchToWrite slot i line e memory s).lat, mp := (fetchToWrite slot i line e memory s).mp } := by
  rfl

@[simp] theorem fetchToWrite_frame (slot : Fin 16) (i : Fin 32) (line : Nat) (e : Entry) (memory : Table Byte 64) (s : State) :
    (fetchToWrite slot i line e memory s).rqp = s.rqp ∧
    (fetchToWrite slot i line e memory s).starvation = s.starvation ∧
    (fetchToWrite slot i line e memory s).rdp = s.rdp ∧
    (fetchToWrite slot i line e memory s).ord = s.ord ∧
    (fetchToWrite slot i line e memory s).rsw = s.rsw ∧
    (fetchToWrite slot i line e memory s).mc = s.mc ∧
    (fetchToWrite slot i line e memory s).nu = s.nu ∧
    (fetchToWrite slot i line e memory s).mli = s.mli ∧
    (fetchToWrite slot i line e memory s).held = s.held ∧
    (fetchToWrite slot i line e memory s).now = s.now ∧
    (fetchToWrite slot i line e memory s).out = s.out ∧
    (fetchToWrite slot i line e memory s).pending = s.pending := by
  rw [fetchToWrite_only]; simp

theorem openWrt_only (q : Request) (w : Fin 16) (s : State) :
    openWrt q w s = { s with rqp := (openWrt q w s).rqp } := by
  rfl

@[simp] theorem openWrt_frame (q : Request) (w : Fin 16) (s : State) :
    (openWrt q w s).lat = s.lat ∧
    (openWrt q w s).starvation = s.starvation ∧
    (openWrt q w s).rdp = s.rdp ∧
    (openWrt q w s).ord = s.ord ∧
    (openWrt q w s).rsw = s.rsw ∧
    (openWrt q w s).mp = s.mp ∧
    (openWrt q w s).mc = s.mc ∧
    (openWrt q w s).nu = s.nu ∧
    (openWrt q w s).mli = s.mli ∧
    (openWrt q w s).held = s.held ∧
    (openWrt q w s).now = s.now ∧
    (openWrt q w s).out = s.out ∧
    (openWrt q w s).pending = s.pending := by
  rw [openWrt_only]; simp

theorem putRegion_only (k : Fin 8) (r : Region) (s : State) :
    putRegion k r s = { s with rsw := (putRegion k r s).rsw } := by
  rfl

@[simp] theorem putRegion_frame (k : Fin 8) (r : Region) (s : State) :
    (putRegion k r s).rqp = s.rqp ∧
    (putRegion k r s).lat = s.lat ∧
    (putRegion k r s).starvation = s.starvation ∧
    (putRegion k r s).rdp = s.rdp ∧
    (putRegion k r s).ord = s.ord ∧
    (putRegion k r s).mp = s.mp ∧
    (putRegion k r s).mc = s.mc ∧
    (putRegion k r s).nu = s.nu ∧
    (putRegion k r s).mli = s.mli ∧
    (putRegion k r s).held = s.held ∧
    (putRegion k r s).now = s.now ∧
    (putRegion k r s).out = s.out ∧
    (putRegion k r s).pending = s.pending := by
  rw [putRegion_only]; simp

end Sys2Proof.Machine
end

section
/-! Which notices an act posts (R159, R160): notices of the listed kinds alone, with or without counts beside them; what both leave
of the queue; and the kinds that each operation can post. -/

namespace Sys2Proof.Machine

/-- Notices of the listed kinds have been posted to `u`, and nothing else has happened to it. -/
def PostedOnly (kinds : List Nat) (u v : Nu) : Prop :=
  ∃ bodies, (∀ b ∈ bodies, noticeKind b ∈ kinds) ∧ v = postAll bodies u

/-- Notices of the listed kinds have been posted to `u`, and counters have counted. -/
def Posted (kinds : List Nat) (u v : Nu) : Prop :=
  ∃ bodies counters, (∀ b ∈ bodies, noticeKind b ∈ kinds) ∧ v = { postAll bodies u with counters := counters }

/-! ## The two relations -/

/-- A post reads no counter: counts made before it can be made after it. -/
theorem postToNu_withCounters (body : NoticeBody) (u : Nu) (counters : Counters) : ∃ counters',
    postToNu body { u with counters := counters } = { postToNu body u with counters := counters' } := by
  unfold postToNu
  split
  · exact ⟨counters, rfl⟩
  · exact ⟨bumpCounter .noticesLost counters, rfl⟩

theorem postAll_withCounters (bodies : List NoticeBody) (u : Nu) (counters : Counters) : ∃ counters',
    postAll bodies { u with counters := counters } = { postAll bodies u with counters := counters' } := by
  induction bodies generalizing u counters with
  | nil => exact ⟨counters, rfl⟩
  | cons body rest ih =>
    obtain ⟨counters', h⟩ := postToNu_withCounters body u counters
    rw [postAll_cons, h, postAll_cons]
    exact ih _ _

theorem PostedOnly.refl (kinds : List Nat) (u : Nu) : PostedOnly kinds u u := ⟨[], by simp, rfl⟩

theorem PostedOnly.of_eq (kinds : List Nat) {u v : Nu} (h : v = u) : PostedOnly kinds u v := h ▸ .refl kinds u

theorem PostedOnly.one {kinds : List Nat} {body : NoticeBody} (h : noticeKind body ∈ kinds) (u : Nu) :
    PostedOnly kinds u (postToNu body u) := ⟨[body], by simpa using h, rfl⟩

theorem PostedOnly.trans {kinds : List Nat} {u v w : Nu} (h : PostedOnly kinds u v) (h' : PostedOnly kinds v w) :
    PostedOnly kinds u w := by
  obtain ⟨a, ha, rfl⟩ := h
  obtain ⟨b, hb, rfl⟩ := h'
  refine ⟨a ++ b, fun x hx => ?_, (postAll_append a b u).symm⟩
  obtain hx | hx := List.mem_append.1 hx
  · exact ha x hx
  · exact hb x hx

theorem PostedOnly.mono {kinds kinds' : List Nat} {u v : Nu} (h : PostedOnly kinds u v) (hk : kinds ⊆ kinds') :
    PostedOnly kinds' u v := by
  obtain ⟨bodies, hb, rfl⟩ := h
  exact ⟨bodies, fun b hbm => hk (hb b hbm), rfl⟩

theorem PostedOnly.posted {kinds : List Nat} {u v : Nu} (h : PostedOnly kinds u v) : Posted kinds u v := by
  obtain ⟨bodies, hb, rfl⟩ := h
  exact ⟨bodies, _, hb, rfl⟩

theorem Posted.refl (kinds : List Nat) (u : Nu) : Posted kinds u u := (PostedOnly.refl kinds u).posted

theorem Posted.of_eq (kinds : List Nat) {u v : Nu} (h : v = u) : Posted kinds u v := h ▸ .refl kinds u

theorem Posted.one {kinds : List Nat} {body : NoticeBody} (h : noticeKind body ∈ kinds) (u : Nu) :
    Posted kinds u (postToNu body u) := (PostedOnly.one h u).posted

/-- A count changes counters alone. -/
theorem Posted.counted (kinds : List Nat) (u : Nu) (counters : Counters) : Posted kinds u { u with counters := counters } :=
  ⟨[], counters, by simp, rfl⟩

theorem Posted.trans {kinds : List Nat} {u v w : Nu} (h : Posted kinds u v) (h' : Posted kinds v w) : Posted kinds u w := by
  obtain ⟨a, counters, ha, rfl⟩ := h
  obtain ⟨b, counters', hb, rfl⟩ := h'
  obtain ⟨counters'', hc⟩ := postAll_withCounters b (postAll a u) counters
  refine ⟨a ++ b, counters', fun x hx => ?_, by rw [hc, postAll_append]⟩
  obtain hx | hx := List.mem_append.1 hx
  · exact ha x hx
  · exact hb x hx

theorem Posted.mono {kinds kinds' : List Nat} {u v : Nu} (h : Posted kinds u v) (hk : kinds ⊆ kinds') :
    Posted kinds' u v := by
  obtain ⟨bodies, counters, hb, rfl⟩ := h
  exact ⟨bodies, counters, fun b hbm => hk (hb b hbm), rfl⟩

/-! ## What posts leave of the queue -/

theorem postToNu_queue_prefix (body : NoticeBody) (u : Nu) : u.queue <+: (postToNu body u).queue := by
  obtain ⟨-, h⟩ | ⟨-, h⟩ := postToNu_queue body u
  · exact h ▸ List.prefix_append _ _
  · exact h ▸ List.prefix_rfl

theorem postAll_queue_prefix (bodies : List NoticeBody) (u : Nu) : u.queue <+: (postAll bodies u).queue := by
  induction bodies generalizing u with
  | nil => exact List.prefix_rfl
  | cons body rest ih => exact (postToNu_queue_prefix body u).trans (ih _)

/-- Posts drop no record that the queue holds (R160). -/
theorem Posted.queue_prefix {kinds : List Nat} {u v : Nu} (h : Posted kinds u v) : u.queue <+: v.queue := by
  obtain ⟨bodies, counters, -, rfl⟩ := h
  exact postAll_queue_prefix bodies u

/-- A queue that is full takes no record (R160). -/
theorem postAll_queue_full (bodies : List NoticeBody) {u : Nu} (h : Config.noticeCapacity ≤ u.queue.length) :
    (postAll bodies u).queue = u.queue := by
  induction bodies generalizing u with
  | nil => rfl
  | cons body rest ih =>
    obtain ⟨hlt, -⟩ | ⟨-, hq⟩ := postToNu_queue body u
    · omega
    · rw [postAll_cons, ih (hq ▸ h), hq]

theorem Posted.queue_full {kinds : List Nat} {u v : Nu} (h : Posted kinds u v)
    (hfull : Config.noticeCapacity ≤ u.queue.length) : v.queue = u.queue := by
  obtain ⟨bodies, counters, -, rfl⟩ := h
  exact postAll_queue_full bodies hfull

theorem Posted.enables {kinds : List Nat} {u v : Nu} (h : Posted kinds u v) : v.enables = u.enables := by
  obtain ⟨bodies, counters, -, rfl⟩ := h
  induction bodies generalizing u with
  | nil => rfl
  | cons body rest ih => exact (ih (u := postToNu body u)).trans (postToNu_enables body u)

/-- The record of a post into a queue with room is there after all that is posted behind it. -/
theorem Posted.queue_behind {kinds : List Nat} {body : NoticeBody} {u v : Nu} (h : Posted kinds (postToNu body u) v)
    (hroom : u.queue.length < 32) : ∃ later, v.queue = u.queue ++ { seq := u.seq, body := body } :: later := by
  obtain ⟨later, hlater⟩ := h.queue_prefix
  obtain ⟨-, hq⟩ | ⟨hfull, -⟩ := postToNu_queue body u
  · exact ⟨later, by rw [← hlater, hq]; simp⟩
  · exact absurd hroom (Nat.not_lt.2 hfull)

/-! ## What the operations of the sweep post -/

theorem passLine_posted (k : Fin 8) (s : State) : PostedOnly [7] s.nu (passLine k s).nu := by
  obtain h | ⟨info, w, -, -, h⟩ | ⟨info, w, -, -, h⟩ := passLine_cases k s
  · exact .of_eq _ (by rw [h])
  · rw [h]; exact .one (by simp [noticeKind]) _
  · exact .of_eq _ (by rw [h])

theorem Evaluates.posted {s t : State} (h : Evaluates s t) : PostedOnly [7] s.nu t.nu := by
  induction h with
  | rests s _ => exact .refl _ _
  | stops s k line _ _ _ => exact .refl _ _
  | passes s t k line info _ _ _ _ _ ih =>
    refine PostedOnly.trans ?_ ih
    unfold withLinePassed
    dsimp only
    split
    · exact .one (by simp [noticeKind]) _
    · exact .refl _ _

theorem evaluate_posted (s : State) : PostedOnly [7] s.nu (evaluate s).nu := (evaluate_evaluates s).posted

theorem judgeUrgency_posted (s : State) : PostedOnly [7] s.nu (judgeUrgency s).nu := by
  unfold judgeUrgency
  split
  · split
    · exact evaluate_posted s
    · exact .refl _ _
  all_goals exact .refl _ _

theorem settleSweep_posted (s : State) : PostedOnly [7] s.nu (settleSweep s).nu :=
  judgeUrgency_posted (judgeStarvation s)

theorem claimEnded_posted (line : Nat) (s : State) : PostedOnly [7] s.nu (claimEnded line s).nu := by
  unfold claimEnded
  split
  · split
    · exact evaluate_posted s
    · exact .refl _ _
  all_goals exact .refl _ _

theorem sweepFault_posted (k : Fin 8) (line : Nat) (cause : FaultCause) (s : State) :
    (sweepFault k line cause s).nu = postToNu (.sweepFault k line cause) s.nu := by
  unfold sweepFault
  rw [post_nu]
  split <;> rfl

theorem sweepGoOn_posted (s : State) : PostedOnly [7] s.nu (sweepGoOn s).nu := by
  unfold sweepGoOn
  split
  · split
    · exact evaluate_posted s
    · exact .refl _ _
  · exact .refl _ _

theorem sweepWriteEnd_posted (fault : Option FaultCause) (s : State) : PostedOnly [6, 7] s.nu (sweepWriteEnd fault s).nu := by
  unfold sweepWriteEnd
  split
  · rename_i k line _
    refine PostedOnly.trans ?_ ((sweepGoOn_posted _).mono (by simp))
    refine PostedOnly.trans ?_ ((passLine_posted k _).mono (by simp))
    split
    · rw [sweepFault_posted]; exact .one (by simp [noticeKind]) _
    · exact .refl _ _
  all_goals exact .refl _ _

/-! ## What the ends of entries and pieces post -/

theorem testDrain_posted (s : State) : PostedOnly [10] s.nu (testDrain s).nu := by
  obtain h | ⟨-, -, h⟩ := testDrain_cases s
  · exact .of_eq _ (by rw [h])
  · rw [h]; exact .one (by simp [noticeKind]) _

theorem judgeStall_posted (s : State) : PostedOnly [5] s.nu (judgeStall s).nu := by
  obtain h | ⟨-, -, h⟩ := judgeStall_cases s
  · exact .of_eq _ (by rw [h])
  · rw [h]; exact .one (by simp [noticeKind]) _

theorem postEnd_posted (e : Entry) (kind : EndKind) (s : State) : PostedOnly [0, 1] s.nu (postEnd e kind s).nu := by
  cases kind
  · exact .refl _ _
  · exact .one (by simp [noticeKind]) _
  · exact .one (by simp [noticeKind]) _

theorem countFill_posted (kinds : List Nat) (e : Entry) (kind : EndKind) (s : State) :
    Posted kinds s.nu (countFill e kind s).nu := by
  unfold countFill
  split
  case h_1 | h_2 | h_3 => exact .counted _ _ _
  all_goals exact .refl _ _

/-- The notices of an entry's end: that of the end itself, and the count of its fill. -/
theorem endEntry_nu {i : Fin 32} {e : Entry} (kind : EndKind) {s : State} (he : s.lat.entries.get i = some e) :
    ∃ u : State, u.nu = (postEnd e kind s).nu ∧ (endEntry i kind s).nu = (countFill e kind u).nu := by
  unfold endEntry
  rw [he]
  dsimp only
  unfold completionEffects
  refine ⟨_, ?_, rfl⟩
  dsimp only [forgetEntry]
  rw [(countDownHeld_frame _ _ _).2.2.2.2.2.2.2.1]
  split <;> rfl

theorem endEntry_posted (i : Fin 32) (kind : EndKind) (s : State) : Posted [0, 1] s.nu (endEntry i kind s).nu := by
  cases he : s.lat.entries.get i with
  | none => exact .of_eq _ (by rw [endEntry, he])
  | some e =>
    obtain ⟨u, hu, h⟩ := endEntry_nu kind he
    rw [h]
    exact (postEnd_posted e kind s).posted.trans (hu ▸ countFill_posted _ e kind u)

/-- An end that is LOST or UNCONFIRMED counts no fill. -/
theorem endEntry_failed_nu {i : Fin 32} {e : Entry} {kind : EndKind} {s : State} (he : s.lat.entries.get i = some e)
    (hk : endFailed kind = true) : (endEntry i kind s).nu = (postEnd e kind s).nu := by
  obtain ⟨u, hu, h⟩ := endEntry_nu kind he
  rw [h, ← hu]
  cases kind
  · cases hk
  all_goals rfl

theorem failPiece_posted (c : Fin 16) (i : Nat) (status : ReadStatus) (cause : FaultCause) (s : State) :
    PostedOnly [2] s.nu (failPiece c i status cause s).nu := by
  unfold failPiece
  split
  · split
    · dsimp only
      split
      · exact .of_eq _ (by simp)
      · simp only [finishPiece_frame, post_nu]; exact .one (by simp [noticeKind]) _
    · exact .refl _ _
  · exact .refl _ _

theorem ownerTimeout_posted (owner : Owner) (s : State) : PostedOnly [0, 1, 2, 6, 7] s.nu (ownerTimeout owner s).nu := by
  have hend : ∀ i kind (u : State), endFailed kind = true → PostedOnly [0, 1, 2, 6, 7] u.nu (endEntry i kind u).nu := by
    intro i kind u hk
    cases he : u.lat.entries.get i with
    | none => exact .of_eq _ (by rw [endEntry, he])
    | some e => rw [endEntry_failed_nu he hk]; exact (postEnd_posted e kind u).mono (by simp)
  cases owner with
  | fetchOf i => exact hend i _ s rfl
  | writeOf i =>
    have h := hend i .unconfirmed (aheadAfterWrite i false s) rfl
    rwa [(aheadAfterWrite_frame i false s).2.2.2.2.2.2.2.1] at h
  | readOf c i => exact (failPiece_posted c i _ _ s).mono (by simp)
  | sweepEngine => exact (sweepWriteEnd_posted _ s).mono (by simp)

/-! ## What the acts of the take and of the grant post -/

theorem mergePiece_posted (kinds : List Nat) (q : Request) (w : Option (Fin 16)) (p : Span) (i : Fin 32) (s : State) :
    Posted kinds s.nu (mergePiece q w p i s).nu := by
  unfold mergePiece
  split
  · simp only [closeIfFull_frame, putEntry_nu]; exact .counted _ _ _
  · exact .refl _ _

theorem placePiece_posted (kinds : List Nat) (q : Request) (w : Option (Fin 16)) (s : State) (p : Span) :
    Posted kinds s.nu (placePiece q w s p).nu := by
  unfold placePiece
  split
  · exact mergePiece_posted kinds q w p _ s
  · exact .of_eq _ (by simp)

theorem placeAll_posted (kinds : List Nat) (q : Request) (w : Option (Fin 16)) (l : List Span) (s : State) :
    Posted kinds s.nu (l.foldl (placePiece q w) s).nu := by
  induction l generalizing s with
  | nil => exact .refl _ _
  | cons p rest ih => exact (placePiece_posted kinds q w s p).trans (ih _)

theorem releaseTake_nu (q : Request) (w : Option (Fin 16)) (k : Fin 8) (r : ReleaseRule) (s : State) :
    (releaseTake q w k r s).nu =
      if r.note then postToNu (.releaseNote k q.requester q.address (q.data.take (min 8 q.length.val))) s.nu
      else s.nu := by
  unfold releaseTake
  dsimp only
  rw [openReleaseAll_only, releaseOwnLines_only]
  split <;> rfl

theorem placeWrite_posted (q : Request) (w : Option (Fin 16)) (s : State) : Posted [8] s.nu (placeWrite q w s).nu := by
  unfold placeWrite
  split
  · split
    · rw [releaseTake_nu]
      split
      · exact .one (by simp [noticeKind]) _
      · exact .refl _ _
    · exact .refl _ _
  · exact placeAll_posted _ q w _ s

theorem resolvePiece_posted (kinds : List Nat) (c : Fin 16) (i : Nat) (p : Span) (s : State) :
    Posted kinds s.nu (resolvePiece c i p s).1.nu := by
  unfold resolvePiece
  split
  · simp only [finishPiece_frame]; exact .counted _ _ _
  · simp only [finishPiece_frame]; exact .counted _ _ _
  · exact .refl _ _

theorem resolveAll_posted (kinds : List Nat) (c : Fin 16) (i : Nat) (l : List Span) (s : State) :
    Posted kinds s.nu (resolveAll c i l s).nu := by
  induction l generalizing i s with
  | nil => exact .refl _ _
  | cons p rest ih => exact (resolvePiece_posted kinds c i p s).trans (ih _ _)

theorem takeServed_posted {q : Request} {s t : State} (h : takeServed q s = some t) : Posted [8] s.nu t.nu := by
  obtain ⟨-, c, -, rfl⟩ | ⟨-, -, ⟨-, w, -, rfl⟩ | ⟨-, rfl⟩⟩ | ⟨-, rfl⟩ := takeServed_cases h
  · exact resolveAll_posted _ _ _ _ _
  · exact placeWrite_posted q (some w) (holdTag q.requester q.tag (openWrt q w s))
  · exact placeWrite_posted q none s
  · exact .of_eq _ (by simp)

theorem takeRefused_nu (q : Request) (status : ResponseStatus) (cause : RefusalCause) (s : State) :
    (takeRefused q status cause s).nu = postToNu (.requestRefused q.requester q.tag status cause
      (if q.kind = .sync ∨ cause = .badKind then none else some q.address)) s.nu := rfl

theorem takeHead_posted (q : Request) (s : State) : Posted [8, 9] s.nu (takeHead q s).nu := by
  obtain ⟨-, h⟩ | ⟨-, h⟩ | ⟨status, cause, -, h⟩ | ⟨-, -, h⟩ | ⟨t, -, ht, h⟩ := takeHead_cases q s
  · exact .of_eq _ (by rw [h])
  · exact .of_eq _ (by rw [h]; simp)
  · rw [h, (leaveIntake_frame _).2.2.2.2.2.2.1, takeRefused_nu]
    exact .one (by simp [noticeKind]) _
  · exact .of_eq _ (by rw [h]; simp)
  · have hserved := (takeServed_posted ht).mono (kinds' := [8, 9]) (by simp)
    rw [h, (leaveIntake_frame t).2.2.2.2.2.2.1]
    simpa using hserved

theorem grantRead_posted (kinds : List Nat) (slot : Fin 16) (l : List (Fin 16 × Nat × Span)) (s : State) :
    Posted kinds s.nu (grantRead slot l s).nu := by
  induction l generalizing s with
  | nil => exact .refl _ _
  | cons x rest ih =>
    obtain ⟨c, i, p⟩ := x
    unfold grantRead
    dsimp only
    split
    · exact .of_eq _ (by simp)
    · exact (resolvePiece_posted kinds c i p s).trans (ih _)

theorem grantTo_posted (kinds : List Nat) (slot : Fin 16) (cls : ArbiterClass) (s : State) :
    Posted kinds s.nu (grantTo slot cls s).nu := by
  cases cls
  · exact .of_eq _ (grantWrite_frame slot s).2.2.2.2.2.1
  · exact grantRead_posted kinds slot _ s
  · exact .of_eq _ (grantSweep_frame slot s).2.2.2.2.2.2.1

/-! ## What the events post -/

theorem grantOne_posted (s : State) : Posted [7] s.nu (grantOne s).nu := by
  unfold grantOne
  split
  · exact (grantTo_posted _ _ _ s).trans (settleSweep_posted _).posted
  · exact .refl _ _

theorem afterEntryEnd_posted (s : State) : PostedOnly [7, 10] s.nu (afterEntryEnd s).nu := by
  have h := (testDrain_posted (judgeHead s)).mono (kinds' := [7, 10]) (by simp)
  rw [(judgeHead_frame s).2.2.2.2.2.2.2.1] at h
  exact h.trans ((settleSweep_posted _).mono (by simp))

theorem fetchReturned_posted (slot : Fin 16) (i : Fin 32) (line : Nat) (r : MemoryResponse) (s : State) :
    Posted [0, 1, 7, 10] s.nu (fetchReturned slot i line r s).nu := by
  cases h : readData r with
  | none =>
    rw [fetchReturned_failed h]
    refine Posted.trans ?_ ((afterEntryEnd_posted _).posted.mono (by simp))
    refine Posted.trans ?_ ((claimEnded_posted line _).posted.mono (by simp))
    exact (endEntry_posted i _ (freeSlot slot s)).mono (by simp)
  | some data =>
    obtain ⟨memory, corrected⟩ := data
    obtain ⟨counters, hcount⟩ := countCorrected_nu corrected s
    cases he : s.lat.entries.get i with
    | none => rw [fetchReturned_free h he, hcount]; exact .counted _ _ _
    | some e => rw [fetchReturned_merged h he, hcount]; exact .counted _ _ _

theorem writeReturned_posted (slot : Fin 16) (i : Fin 32) (line : Nat) (r : MemoryResponse) (s : State) :
    Posted [0, 1, 7, 10] s.nu (writeReturned slot i line r s).nu := by
  unfold writeReturned
  dsimp only
  refine Posted.trans ?_ ((afterEntryEnd_posted _).posted.mono (by simp))
  refine Posted.trans ?_ ((claimEnded_posted line _).posted.mono (by simp))
  refine Posted.trans ?_ ((endEntry_posted i _ _).mono (by simp))
  exact .of_eq _ (by simp)

theorem pieceReturned_posted (c : Fin 16) (n : Nat) (r : MemoryResponse) (s : State) :
    Posted [2] s.nu (pieceReturned c n r s).nu := by
  unfold pieceReturned
  split
  · rename_i corrected _
    obtain ⟨counters, hcount⟩ := countCorrected_nu corrected s
    rw [(returnPiece_frame _ _ _ _).2.2.2.2.2.2.2.1, hcount]
    exact .counted _ _ _
  · exact (failPiece_posted c n _ _ s).posted

theorem readReturned_posted (slot c : Fin 16) (n line : Nat) (r : MemoryResponse) (s : State) :
    Posted [2, 7, 10] s.nu (readReturned slot c n line r s).nu := by
  rw [readReturned_eq]
  refine Posted.trans ?_ ((settleSweep_posted _).posted.mono (by simp))
  refine Posted.trans ?_ ((testDrain_posted _).posted.mono (by simp))
  refine Posted.trans ?_ ((claimEnded_posted line _).posted.mono (by simp))
  exact (pieceReturned_posted c n r (freeSlot slot s)).mono (by simp)

theorem sweepReturned_posted (slot : Fin 16) (line : Nat) (r : MemoryResponse) (s : State) :
    PostedOnly [6, 7, 10] s.nu (sweepReturned slot line r s).nu := by
  unfold sweepReturned
  dsimp only
  refine PostedOnly.trans ?_ ((settleSweep_posted _).mono (by simp))
  refine PostedOnly.trans ?_ ((testDrain_posted _).mono (by simp))
  refine PostedOnly.trans ?_ ((claimEnded_posted line _).mono (by simp))
  exact (sweepWriteEnd_posted _ (freeSlot slot s)).mono (by simp)

theorem lateResponse_posted (slot : Fin 16) (purpose : Purpose) (line : Nat) (s : State) :
    Posted [7] (postToNu (.lateResponse slot line purpose) (countOne .lateResponses s).nu)
      (lateResponse slot purpose line s).nu := by
  unfold lateResponse
  refine Posted.trans ?_ (settleSweep_posted _).posted
  refine Posted.trans ?_ (claimEnded_posted line _).posted
  exact .of_eq _ rfl

theorem receive_posted (r : MemoryResponse) (s : State) : Posted [0, 1, 2, 3, 4, 6, 7, 10] s.nu (receive r s).nu := by
  obtain ⟨_, _, _, -, h⟩ | ⟨_, _, _, -, h⟩ | ⟨_, _, _, _, -, h⟩ | ⟨_, _, -, h⟩ | ⟨_, _, -, h⟩ | h := receive_cases r s
  · rw [h]; exact (fetchReturned_posted _ _ _ r s).mono (by simp)
  · rw [h]; exact (writeReturned_posted _ _ _ r s).mono (by simp)
  · rw [h]; exact (readReturned_posted _ _ _ _ r s).mono (by simp)
  · rw [h]; exact (sweepReturned_posted _ _ r s).posted.mono (by simp)
  · rw [h]
    refine Posted.trans ?_ ((lateResponse_posted _ _ _ s).mono (by simp))
    exact (Posted.counted _ s.nu _).trans (.one (by simp [noticeKind]) _)
  · rw [h]; exact .one (by simp [noticeKind]) _

theorem toldOrphan_posted (slot : Fin 16) (owner : Owner) (line : Nat) (sent : Bool) (deadline : Nat) (s : State) :
    PostedOnly [0, 1, 2, 5, 6, 7] s.nu (toldOrphan slot owner line sent deadline s).nu :=
  ((ownerTimeout_posted owner (orphanSlot slot owner line sent deadline s)).mono (by simp)).trans
    ((judgeStall_posted _).mono (by simp))

theorem expireSlot_posted (slot : Fin 16) (s : State) : PostedOnly [0, 1, 2, 5, 6, 7, 10] s.nu (expireSlot slot s).nu := by
  obtain ⟨owner, line, sent, deadline, -, h⟩ | h := expireSlot_cases slot s
  · have htold := (toldOrphan_posted slot owner line sent deadline s).mono (kinds' := [0, 1, 2, 5, 6, 7, 10]) (by simp)
    rw [h]
    split
    · exact htold.trans ((afterEntryEnd_posted _).mono (by simp))
    · refine PostedOnly.trans ?_ ((settleSweep_posted _).mono (by simp))
      exact htold.trans ((testDrain_posted _).mono (by simp))
  · exact .of_eq _ (by rw [h])

theorem pacingEnds_posted (s : State) : PostedOnly [7] s.nu (pacingEnds s).nu := by
  unfold pacingEnds
  split
  · rename_i u _
    exact (evaluate_posted (atTime u s)).trans (settleSweep_posted _)
  all_goals exact .refl _ _

theorem discardNext_posted (s : State) : Posted [0, 1, 10] s.nu (discardNext s).nu := by
  unfold discardNext
  split
  · exact .refl _ _
  · dsimp only
    split
    · refine Posted.trans ?_ ((testDrain_posted _).posted.mono (by simp))
      rw [(judgeHead_frame _).2.2.2.2.2.2.2.1]
      exact (endEntry_posted _ _ (unqueue _ _)).mono (by simp)
    · exact .refl _ _

theorem sendReadResponse_posted (s : State) : PostedOnly [10] s.nu (sendReadResponse s).nu := by
  unfold sendReadResponse
  split
  · exact .refl _ _
  · dsimp only
    split
    · refine PostedOnly.trans (.of_eq _ ?_) (testDrain_posted _)
      rw [(judgeHead_frame _).2.2.2.2.2.2.2.1]; rfl
    · exact .refl _ _

theorem sendSyncResponse_posted (s : State) : PostedOnly [10] s.nu (sendSyncResponse s).nu := by
  unfold sendSyncResponse
  split
  · exact .refl _ _
  · dsimp only
    split
    · exact PostedOnly.trans (.of_eq _ rfl) (testDrain_posted _)
    · exact .refl _ _

theorem completeFlush_posted (s : State) : PostedOnly [10] s.nu (completeFlush s).nu := by
  obtain ⟨w, l, -, -, h⟩ | ⟨-, h⟩ := frameStart_cases s
  · rw [show completeFlush s = _ from h]; exact .one (by simp [noticeKind]) _
  · exact .of_eq _ (congrArg State.nu h)

/-! ## What the frames' acts post -/

theorem evaluateAfterDefine_posted (s : State) : PostedOnly [7] s.nu (evaluateAfterDefine s).nu := by
  unfold evaluateAfterDefine
  split
  · split
    case h_1 | h_2 | h_3 => exact evaluate_posted s
    all_goals exact .refl _ _
  · exact .refl _ _

theorem defineRegion_posted (index : Byte) (base : BitVec 40) (size : BitVec 32) (mode : Byte) (pattern : Table Byte 8)
    (s : State) : PostedOnly [7] s.nu (defineRegion index base size mode pattern s).nu := by
  unfold defineRegion
  dsimp only
  split
  · split
    · split
      · refine PostedOnly.trans ?_ (settleSweep_posted _)
        exact evaluateAfterDefine_posted (putRegion _ _ s)
      · exact .refl _ _
    · exact .refl _ _
  · exact .refl _ _

theorem evaluateOnline_posted (s : State) : PostedOnly [7] s.nu (evaluateOnline s).nu := by
  unfold evaluateOnline
  split
  · exact .refl _ _
  all_goals exact evaluate_posted s

theorem comeOnline_posted (s : State) : PostedOnly [7] s.nu (comeOnline s).nu := by
  have h := evaluateOnline_posted (judgeHead (setMode .online s))
  rw [(judgeHead_frame _).2.2.2.2.2.2.2.1] at h
  exact h.trans (settleSweep_posted _)

theorem goOnline_posted (s : State) : PostedOnly [7] s.nu (goOnline s).nu := by
  unfold goOnline
  split
  · exact comeOnline_posted (answer .done s)
  · exact .refl _ _

theorem abandonDrain_posted (s : State) : PostedOnly [10] s.nu (abandonDrain s).nu := by
  unfold abandonDrain
  split
  · exact .one (by simp [noticeKind]) _
  all_goals exact .refl _ _

theorem resume_posted (s : State) : PostedOnly [7, 10] s.nu (resume s).nu := by
  unfold resume
  split
  · exact ((abandonDrain_posted (answer .done s)).mono (by simp)).trans ((comeOnline_posted _).mono (by simp))
  · exact .refl _ _

theorem quiesce_posted (s : State) : PostedOnly [10] s.nu (quiesce s).nu := by
  unfold quiesce startDrain
  split
  · split
    · refine PostedOnly.trans (.of_eq _ ?_) (testDrain_posted _)
      rw [(engineLeaves_frame _).2.2.2.2.2.2.2.1]; rfl
    · exact .refl _ _
  · exact .refl _ _

theorem abortLong_posted (s : State) : PostedOnly [10] s.nu (abortLong s).nu := by
  unfold abortLong
  split
  · exact .refl _ _
  all_goals exact .one (by simp [noticeKind]) _

theorem warmReset_posted (s : State) : PostedOnly [5, 10] s.nu (warmReset s).nu := by
  have h : PostedOnly [5, 10] s.nu (clearTraffic (abortResponses (abortLong s))).nu := (abortLong_posted s).mono (by simp)
  unfold warmReset
  dsimp only
  split
  · exact h.trans ((judgeStall_posted _).mono (by simp))
  · exact h

end Sys2Proof.Machine
end

section
/-! What one act makes of the Region Table (R96, R97, R110): each region passes lines that the act has seen written, and becomes READY
at its end. From this follow the law of the Region Table and the rules of Table 5-2. -/

namespace Sys2Proof.Machine

/-! ## One region -/

/-- The same region with perhaps more faults. -/
structure SameRegion (i i' : RegionInfo) : Prop where
  base : i'.base = i.base
  size : i'.size = i.size
  pattern : i'.pattern = i.pattern
  faults : i.faults ≤ i'.faults

theorem SameRegion.refl (i : RegionInfo) : SameRegion i i := ⟨rfl, rfl, rfl, BitVec.le_refl _⟩

theorem SameRegion.trans {i j k : RegionInfo} (h : SameRegion i j) (h' : SameRegion j k) : SameRegion i k :=
  ⟨h'.base.trans h.base, h'.size.trans h.size, h'.pattern.trans h.pattern, BitVec.le_trans h.faults h'.faults⟩

/-- What the sweep makes of the record of region `k`, where `queue` is the Notice Queue afterwards: a SWEEPING region passes lines
that are `seen`, one after another, and is READY once it has passed its last one. -/
inductive RegionSwept (k : Fin 8) (seen : Nat → Prop) (queue : List Notice) : Region → Region → Prop where
  | absent : RegionSwept k seen queue .absent .absent
  | ready (i : RegionInfo) : RegionSwept k seen queue (.ready i) (.ready i)
  | sweeping {i i' : RegionInfo} {w : Nat} (n : Nat) : SameRegion i i' → (∀ m < n, seen (w + 64 * m)) →
      (∀ m, 0 < m → m ≤ n → w + 64 * m ≠ i.base + i.size) →
      RegionSwept k seen queue (.sweeping i w) (.sweeping i' (w + 64 * n))
  | done {i i' : RegionInfo} {w : Nat} (n : Nat) : SameRegion i i' → 0 < n → (∀ m < n, seen (w + 64 * m)) →
      w + 64 * n = i.base + i.size →
      (queue.length < 32 → ∃ x ∈ queue, x.body = .sweepDone k i'.faults) →
      RegionSwept k seen queue (.sweeping i w) (.ready i')

theorem RegionSwept.refl (k : Fin 8) (seen : Nat → Prop) (queue : List Notice) (r : Region) :
    RegionSwept k seen queue r r := by
  cases r with
  | absent => exact .absent
  | sweeping i w => exact .sweeping (i' := i) (w := w) 0 (.refl i) (by simp) (by omega)
  | ready i => exact .ready i

theorem RegionSwept.of_eq (k : Fin 8) (seen : Nat → Prop) (queue : List Notice) {r r' : Region} (h : r' = r) :
    RegionSwept k seen queue r r' := h ▸ .refl k seen queue r

/-- Lines passed one after another are seen, if those passed first and those passed then are. -/
theorem seen_add {seen : Nat → Prop} {w n n' : Nat} (h : ∀ m < n, seen (w + 64 * m))
    (h' : ∀ m < n', seen (w + 64 * n + 64 * m)) : ∀ m < n + n', seen (w + 64 * m) := by
  intro m hm
  by_cases hlt : m < n
  · exact h m hlt
  · have := h' (m - n) (by omega)
    rwa [show w + 64 * n + 64 * (m - n) = w + 64 * m by omega] at this

theorem RegionSwept.trans {k : Fin 8} {seen : Nat → Prop} {queue queue' : List Notice} {r r' r'' : Region}
    (h : RegionSwept k seen queue r r') (h' : RegionSwept k seen queue' r' r'') (hq : queue <+: queue') :
    RegionSwept k seen queue' r r'' := by
  cases h with
  | absent => exact h'
  | ready i => exact h'
  | done n hsame hpos hseen hend hposted =>
    cases h'
    refine .done n hsame hpos hseen hend fun hroom => ?_
    obtain ⟨x, hx, hbody⟩ := hposted (Nat.lt_of_le_of_lt hq.length_le hroom)
    exact ⟨x, hq.subset hx, hbody⟩
  | sweeping n hsame hseen hbelow =>
    cases h' with
    | sweeping n' hsame' hseen' hbelow' =>
      rw [show ∀ w, w + 64 * n + 64 * n' = w + 64 * (n + n') by omega]
      refine .sweeping (n + n') (hsame.trans hsame') (seen_add hseen hseen') fun m hpos hle => ?_
      by_cases hm : m ≤ n
      · exact hbelow m hpos hm
      · have := hbelow' (m - n) (by omega) (by omega)
        rw [hsame.base, hsame.size] at this
        omega
    | done n' hsame' hpos hseen' hend hposted =>
      rw [hsame.base, hsame.size] at hend
      exact .done (n + n') (hsame.trans hsame') (by omega) (seen_add hseen hseen') (by omega) hposted

/-! ## The Region Table -/

/-- The lines of the WRITTEN records of the Ahead List are seen. -/
def AheadSeen (seen : Fin 8 → Nat → Prop) (s : State) : Prop :=
  ∀ r ∈ s.rsw.ahead, r.state = .written → ∀ k, seen k r.line

/-- The lines of the Ahead List, in its order. -/
def aheadLines (s : State) : List Nat := s.rsw.ahead.map AheadRecord.line

/-- `t` comes from `s` by the sweep: its regions pass lines that are seen, no record of the Notice Queue is lost, no line joins the Ahead
List, and no line that is not seen becomes one of a WRITTEN record. -/
structure SweptOn (seen : Fin 8 → Nat → Prop) (s t : State) : Prop where
  region : ∀ k, RegionSwept k (seen k) t.nu.queue (s.rsw.regions.get k) (t.rsw.regions.get k)
  ahead : AheadSeen seen t
  lines : (aheadLines t).Sublist (aheadLines s)
  queue : s.nu.queue <+: t.nu.queue

theorem SweptOn.of_rsw {seen : Fin 8 → Nat → Prop} {s t : State} (hr : t.rsw.regions = s.rsw.regions)
    (hahead : t.rsw.ahead = s.rsw.ahead) (ha : AheadSeen seen s) (hq : s.nu.queue <+: t.nu.queue) : SweptOn seen s t :=
  ⟨fun _ => .of_eq _ _ _ (by rw [hr]), fun r hmem => ha r (hahead ▸ hmem), by rw [aheadLines, hahead]; rfl, hq⟩

theorem SweptOn.refl {seen : Fin 8 → Nat → Prop} {s : State} (ha : AheadSeen seen s) : SweptOn seen s s :=
  .of_rsw rfl rfl ha List.prefix_rfl

theorem SweptOn.trans {seen : Fin 8 → Nat → Prop} {s t u : State} (h : SweptOn seen s t) (h' : SweptOn seen t u) :
    SweptOn seen s u :=
  ⟨fun k => (h.region k).trans (h'.region k) h'.queue, h'.ahead, h'.lines.trans h.lines, h.queue.trans h'.queue⟩

/-- An operation that leaves the sweep alone leaves the lines seen. -/
theorem SweptOn.then_same {seen : Fin 8 → Nat → Prop} {s t u : State} (h : SweptOn seen s t) (hr : u.rsw = t.rsw)
    (hq : t.nu.queue <+: u.nu.queue) : SweptOn seen s u :=
  h.trans (.of_rsw (by rw [hr]) (by rw [hr]) h.ahead hq)

/-! ## Operations of the sweep -/

/-- The record of region `k` after the sweep has passed its watermark line. -/
theorem RegionSwept.passed {k : Fin 8} {seen : Nat → Prop} {info : RegionInfo} {line : Nat} {u : Nu} (h : seen line) :
    RegionSwept k seen (if line + 64 = info.base + info.size then postToNu (.sweepDone k info.faults) u else u).queue
      (.sweeping info line)
      (if line + 64 = info.base + info.size then .ready info else .sweeping info (line + 64)) := by
  have hseen : ∀ m < 1, seen (line + 64 * m) := by
    intro m hm
    obtain rfl : m = 0 := by omega
    exact h
  split
  · rename_i hend
    refine .done 1 (.refl info) (by omega) hseen hend fun hroom => ?_
    obtain ⟨-, hq⟩ | ⟨hfull, hq⟩ := postToNu_queue (.sweepDone k info.faults) u
    · exact ⟨⟨u.seq, .sweepDone k info.faults⟩, by simp [hq], rfl⟩
    · rw [hq] at hroom
      exact absurd hroom (Nat.not_lt.2 hfull)
  · rename_i hend
    refine .sweeping (i' := info) 1 (.refl info) hseen fun m hpos hle => ?_
    obtain rfl : m = 1 := by omega
    exact hend

/-- What passing a line writes. -/
theorem passLine_sweeping {k : Fin 8} {s : State} {info : RegionInfo} {line : Nat}
    (h : s.rsw.regions.get k = .sweeping info line) : passLine k s = { s with
      rsw := { s.rsw with
        regions := s.rsw.regions.set k
          (if line + 64 = info.base + info.size then .ready info else .sweeping info (line + 64)) },
      nu := if line + 64 = info.base + info.size then postToNu (.sweepDone k info.faults) s.nu else s.nu } := by
  unfold passLine
  rw [h]
  by_cases hend : line + 64 = info.base + info.size
  · simp only [Config.lineBytes, hend, if_true]; rfl
  · simp only [Config.lineBytes, hend, if_false]

theorem passLine_other {k : Fin 8} {s : State} (h : ∀ info line, s.rsw.regions.get k ≠ .sweeping info line) :
    passLine k s = s := by
  obtain hsame | ⟨info, w, hw, -⟩ | ⟨info, w, hw, -⟩ := passLine_cases k s
  · exact hsame
  · exact absurd hw (h info w)
  · exact absurd hw (h info w)

theorem passLine_swept {seen : Fin 8 → Nat → Prop} {k : Fin 8} {s : State} (ha : AheadSeen seen s)
    (hseen : ∀ info line, s.rsw.regions.get k = .sweeping info line → seen k line) : SweptOn seen s (passLine k s) := by
  by_cases hk : ∃ info line, s.rsw.regions.get k = .sweeping info line
  · obtain ⟨info, line, hk⟩ := hk
    refine ⟨fun j => ?_, ?_, ?_, (passLine_posted k s).posted.queue_prefix⟩
    · rw [passLine_sweeping hk]
      by_cases hj : k = j
      · subst hj
        rw [hk, Table.get_set_self]
        exact .passed (hseen info line hk)
      · exact .of_eq _ _ _ (Table.get_set_ne _ hj _)
    · rw [passLine_sweeping hk]
      exact ha
    · rw [passLine_sweeping hk]
      exact List.Sublist.refl _
  · rw [passLine_other (fun info line h => hk ⟨info, line, h⟩)]
    exact .refl ha

theorem Evaluates.swept {seen : Fin 8 → Nat → Prop} {s t : State} (h : Evaluates s t) (ha : AheadSeen seen s) :
    SweptOn seen s t := by
  induction h with
  | rests s _ => exact .of_rsw rfl rfl ha List.prefix_rfl
  | stops s k line _ _ _ => exact .of_rsw rfl rfl ha List.prefix_rfl
  | passes s t k line info _ _ hk hw _ ih =>
    obtain ⟨r, hr, hwritten⟩ := List.any_eq_true.1 hw
    have hline : r.line = line ∧ r.state = .written := by simpa using hwritten
    have hseen : seen k line := hline.1 ▸ ha r hr hline.2 k
    have hdrop : AheadSeen seen (dropAhead line s) := fun x hx => ha x (List.mem_of_mem_filter hx)
    have hpass : SweptOn seen (dropAhead line s) (withLinePassed k line info s) := by
      rw [← passLine_dropAhead hk]
      refine passLine_swept hdrop fun info' line' h' => ?_
      cases hk.symm.trans h'
      exact hseen
    have hdropped : SweptOn seen s (dropAhead line s) :=
      ⟨fun _ => .refl _ _ _ _, hdrop, List.filter_sublist.map _, List.prefix_rfl⟩
    exact (hdropped.trans hpass).trans (ih hpass.ahead)

theorem evaluate_swept {seen : Fin 8 → Nat → Prop} {s : State} (ha : AheadSeen seen s) : SweptOn seen s (evaluate s) :=
  (evaluate_evaluates s).swept ha

theorem judgeUrgency_swept {seen : Fin 8 → Nat → Prop} {s : State} (ha : AheadSeen seen s) :
    SweptOn seen s (judgeUrgency s) := by
  unfold judgeUrgency
  split
  · split
    · exact evaluate_swept ha
    · exact .refl ha
  all_goals exact .refl ha

theorem settleSweep_swept {seen : Fin 8 → Nat → Prop} {s : State} (ha : AheadSeen seen s) :
    SweptOn seen s (settleSweep s) :=
  let h := judgeUrgency_swept (s := judgeStarvation s) ha
  ⟨h.region, h.ahead, h.lines, h.queue⟩

theorem claimEnded_swept {seen : Fin 8 → Nat → Prop} {s : State} (line : Nat) (ha : AheadSeen seen s) :
    SweptOn seen s (claimEnded line s) := by
  unfold claimEnded
  split
  · split
    · exact evaluate_swept ha
    · exact .refl ha
  all_goals exact .refl ha

theorem testDrain_swept {seen : Fin 8 → Nat → Prop} {s t : State} (h : SweptOn seen s t) : SweptOn seen s (testDrain t) :=
  h.then_same (by simp) (testDrain_posted t).posted.queue_prefix

theorem countFault_le (c : BitVec 16) : c ≤ countFault c := by
  unfold countFault
  split
  · exact BitVec.le_refl c
  · rename_i h
    have hne : c.toNat ≠ 65535 := fun he => h (BitVec.eq_of_toNat_eq he)
    have := c.isLt
    rw [BitVec.le_def, BitVec.toNat_add, Nat.mod_eq_of_lt]
    all_goals simp only [BitVec.toNat_ofNat]
    all_goals omega

theorem sweepFault_swept {seen : Fin 8 → Nat → Prop} {s : State} (k : Fin 8) (line : Nat) (cause : FaultCause)
    (ha : AheadSeen seen s) : SweptOn seen s (sweepFault k line cause s) := by
  have hq : s.nu.queue <+: (sweepFault k line cause s).nu.queue := by
    rw [sweepFault_posted]; exact postToNu_queue_prefix _ _
  cases hk : s.rsw.regions.get k with
  | sweeping info w =>
    refine ⟨fun j => ?_, ?_, ?_, hq⟩
    · unfold sweepFault
      rw [hk]
      by_cases hj : k = j
      · subst hj
        rw [hk]
        simp only [post_rsw, Table.get_set_self]
        exact .sweeping (i' := { info with faults := countFault info.faults }) 0
          ⟨rfl, rfl, rfl, countFault_le _⟩ (by simp) (by omega)
      · exact .of_eq _ _ _ (Table.get_set_ne _ hj _)
    · unfold sweepFault
      rw [hk]
      exact ha
    · unfold sweepFault
      rw [hk]
      exact List.Sublist.refl _
  | ready info =>
    have hsame : (sweepFault k line cause s).rsw = s.rsw := by unfold sweepFault; rw [hk]; rfl
    exact .of_rsw (by rw [hsame]) (by rw [hsame]) ha hq
  | absent =>
    have hsame : (sweepFault k line cause s).rsw = s.rsw := by unfold sweepFault; rw [hk]; rfl
    exact .of_rsw (by rw [hsame]) (by rw [hsame]) ha hq

/-- A fault leaves the watermark. -/
theorem sweepFault_watermark {k : Fin 8} {line : Nat} {cause : FaultCause} {s : State} {info : RegionInfo} {w : Nat}
    (h : (sweepFault k line cause s).rsw.regions.get k = .sweeping info w) :
    ∃ info', s.rsw.regions.get k = .sweeping info' w := by
  unfold sweepFault at h
  cases hk : s.rsw.regions.get k with
  | sweeping info' w' =>
    simp only [hk, post_rsw, Table.get_set_self] at h
    cases h
    exact ⟨info', rfl⟩
  | ready info' => simp [hk] at h
  | absent => simp [hk] at h

theorem sweepGoOn_swept {seen : Fin 8 → Nat → Prop} {s : State} (ha : AheadSeen seen s) :
    SweptOn seen s (sweepGoOn s) := by
  unfold sweepGoOn
  split
  · split
    · exact evaluate_swept ha
    · exact .of_rsw rfl rfl ha List.prefix_rfl
  · exact .of_rsw rfl rfl ha List.prefix_rfl

/-- The line of the engine's write is seen as that of the region's watermark. -/
def WriteSeen (seen : Fin 8 → Nat → Prop) (s : State) : Prop :=
  ∀ k l info line, s.rsw.engine = .writing k l → s.rsw.regions.get k = .sweeping info line → seen k line

/-- The sweep write of an engine ends: the fault is counted, the line is passed, and the engine goes on (R107). -/
theorem sweepWriteEnd_writing {s : State} {k : Fin 8} {line : Nat} (h : s.rsw.engine = .writing k line)
    (fault : Option FaultCause) : sweepWriteEnd fault s =
      sweepGoOn (judgeStarvation (passLine k (fault.elim s (fun cause => sweepFault k line cause s)))) := by
  unfold sweepWriteEnd
  rw [h]
  cases fault <;> rfl

theorem sweepWriteEnd_other {s : State} (h : engineWrites s.rsw.engine = false) (fault : Option FaultCause) :
    sweepWriteEnd fault s = s := by
  unfold sweepWriteEnd
  split
  · rename_i he; rw [he] at h; cases h
  all_goals rfl

theorem sweepWriteEnd_swept {seen : Fin 8 → Nat → Prop} {s : State} (fault : Option FaultCause) (ha : AheadSeen seen s)
    (hw : WriteSeen seen s) : SweptOn seen s (sweepWriteEnd fault s) := by
  cases he : s.rsw.engine
  case writing k line =>
    rw [sweepWriteEnd_writing he]
    have hfault : SweptOn seen s (fault.elim s (fun cause => sweepFault k line cause s)) := by
      cases fault with
      | none => exact .refl ha
      | some cause => exact sweepFault_swept k line cause ha
    have hpass : SweptOn seen (fault.elim s (fun cause => sweepFault k line cause s))
        (passLine k (fault.elim s (fun cause => sweepFault k line cause s))) := by
      refine passLine_swept hfault.ahead fun info w hk => ?_
      cases fault with
      | none => exact hw k line info w he hk
      | some cause =>
        obtain ⟨info', hinfo'⟩ := sweepFault_watermark hk
        exact hw k line info' w he hinfo'
    have hmark : SweptOn seen s (judgeStarvation (passLine k (fault.elim s (fun cause => sweepFault k line cause s)))) :=
      (hfault.trans hpass).then_same rfl List.prefix_rfl
    exact hmark.trans (sweepGoOn_swept hmark.ahead)
  all_goals
    rw [sweepWriteEnd_other (by rw [he]; rfl)]
    exact .refl ha

end Sys2Proof.Machine
end

section
/-! What every command makes of the Region Table: the acts, the law that the regions stay sound and apart (R90, R97), and the rules of
Table 5-2 (R96, R110). -/

namespace Sys2Proof.Machine

/-! ## Where the grants leave the sweep -/

@[simp] theorem claimBegan_regions (line : Nat) (s : State) : (claimBegan line s).rsw.regions = s.rsw.regions := by
  unfold claimBegan; split <;> (try split) <;> rfl

@[simp] theorem claimBegan_ahead (line : Nat) (s : State) : (claimBegan line s).rsw.ahead = s.rsw.ahead := by
  unfold claimBegan; split <;> (try split) <;> rfl

@[simp] theorem issueEntry_regions (slot : Fin 16) (i : Fin 32) (e : Entry) (s : State) :
    (issueEntry slot i e s).rsw.regions = s.rsw.regions := by
  simp [issueEntry]

@[simp] theorem issueEntry_ahead (slot : Fin 16) (i : Fin 32) (e : Entry) (s : State) :
    (issueEntry slot i e s).rsw.ahead = aheadAfterIssue s e := by
  simp [issueEntry]

/-- An issue inserts no WRITTEN record (R100). -/
theorem mem_aheadAfterIssue {s : State} {e : Entry} {r : AheadRecord} (h : r ∈ aheadAfterIssue s e) :
    r ∈ s.rsw.ahead ∨ r.state = .inFlight := by
  unfold aheadAfterIssue at h
  split at h
  · obtain rfl | h := (mem_insertAhead _ _ _).1 h
    · exact .inr rfl
    · exact .inl h
  · exact .inl h

/-- A grant to the WRITE class issues the first eligible entry, if there is one (R26). -/
theorem grantWrite_cases (slot : Fin 16) (s : State) :
    grantWrite slot s = s ∨ ∃ i e, firstEligible s = some i ∧ s.lat.entries.get i = some e ∧
      grantWrite slot s = issueEntry slot i e s := by
  unfold grantWrite
  split
  · rename_i i hi
    split
    · rename_i e he
      exact .inr ⟨i, e, hi, he, rfl⟩
    · exact .inl rfl
  · exact .inl rfl

@[simp] theorem resolvePiece_rsw (c : Fin 16) (i : Nat) (p : Span) (s : State) : (resolvePiece c i p s).1.rsw = s.rsw := by
  rw [resolvePiece_only]

theorem grantRead_rsw (slot : Fin 16) (l : List (Fin 16 × Nat × Span)) (s : State) :
    (grantRead slot l s).rsw.regions = s.rsw.regions ∧ (grantRead slot l s).rsw.ahead = s.rsw.ahead := by
  induction l generalizing s with
  | nil => exact ⟨rfl, rfl⟩
  | cons x rest ih =>
    obtain ⟨c, i, p⟩ := x
    unfold grantRead
    dsimp only
    split
    · simp
    · simpa using ih (resolvePiece c i p s).1

theorem grantSweep_rsw (slot : Fin 16) (s : State) :
    (grantSweep slot s).rsw.regions = s.rsw.regions ∧ (grantSweep slot s).rsw.ahead = s.rsw.ahead := by
  unfold grantSweep
  split
  · split <;> exact ⟨rfl, rfl⟩
  all_goals exact ⟨rfl, rfl⟩

theorem grantTo_rsw (slot : Fin 16) (cls : ArbiterClass) (s : State) :
    (grantTo slot cls s).rsw.regions = s.rsw.regions ∧
    ∀ r ∈ (grantTo slot cls s).rsw.ahead, r ∈ s.rsw.ahead ∨ r.state = .inFlight := by
  cases cls with
  | write =>
    obtain h | ⟨i, e, -, -, h⟩ := grantWrite_cases slot s
    · exact ⟨congrArg (fun t => t.rsw.regions) h, fun r hr => .inl (by simpa [grantTo, h] using hr)⟩
    · refine ⟨by simp [grantTo, h], fun r hr => mem_aheadAfterIssue (e := e) ?_⟩
      simpa [grantTo, h] using hr
  | read =>
    obtain ⟨hr, ha⟩ := grantRead_rsw slot (readCandidates s) s
    exact ⟨hr, fun r hmem => .inl (ha ▸ hmem)⟩
  | sweep =>
    obtain ⟨hr, ha⟩ := grantSweep_rsw slot s
    exact ⟨hr, fun r hmem => .inl (ha ▸ hmem)⟩

/-! ## The acts -/

/-- The lines of all Ahead List records are seen. -/
def AllSeen (seen : Fin 8 → Nat → Prop) (s : State) : Prop := ∀ r ∈ s.rsw.ahead, ∀ k, seen k r.line

theorem AllSeen.aheadSeen {seen : Fin 8 → Nat → Prop} {s : State} (h : AllSeen seen s) : AheadSeen seen s :=
  fun r hr _ => h r hr

theorem SweptOn.settled {seen : Fin 8 → Nat → Prop} {s t : State} (h : SweptOn seen s t) : SweptOn seen s (settleSweep t) :=
  h.trans (settleSweep_swept h.ahead)

theorem SweptOn.claimEnds {seen : Fin 8 → Nat → Prop} {s t : State} (line : Nat) (h : SweptOn seen s t) :
    SweptOn seen s (claimEnded line t) :=
  h.trans (claimEnded_swept line h.ahead)

theorem SweptOn.entryEnded {seen : Fin 8 → Nat → Prop} {s t : State} (h : SweptOn seen s t) :
    SweptOn seen s (afterEntryEnd t) :=
  (testDrain_swept (h.then_same (u := judgeHead t) (by simp) (by simp))).settled

theorem SweptOn.ends {seen : Fin 8 → Nat → Prop} {s t : State} (i : Fin 32) (kind : EndKind) (h : SweptOn seen s t) :
    SweptOn seen s (endEntry i kind t) :=
  h.then_same (by simp) (endEntry_posted i kind t).queue_prefix

/-- A GRANT gives one slot to one class and judges the sweep, or changes nothing (R118). -/
theorem grantOne_cases (s : State) : grantOne s = s ∨ ∃ slot cls, lowestFreeSlot s.mp = some slot ∧
    grantedClass s = some cls ∧ grantOne s = settleSweep (grantTo slot cls s) := by
  unfold grantOne
  split
  · rename_i slot cls hslot hcls
    exact .inr ⟨slot, cls, hslot, hcls, rfl⟩
  · exact .inl rfl

theorem grantTo_aheadSeen {seen : Fin 8 → Nat → Prop} {s : State} (h : AheadSeen seen s) (slot : Fin 16)
    (cls : ArbiterClass) : AheadSeen seen (grantTo slot cls s) := by
  intro r hmem hw
  obtain hs | hflight := (grantTo_rsw slot cls s).2 r hmem
  · exact h r hs hw
  · rw [hw] at hflight; cases hflight

theorem grantOne_swept {seen : Fin 8 → Nat → Prop} {s : State} (h : AheadSeen seen s) (k : Fin 8) :
    RegionSwept k (seen k) (grantOne s).nu.queue (s.rsw.regions.get k) ((grantOne s).rsw.regions.get k) := by
  obtain hsame | ⟨slot, cls, -, -, hgrant⟩ := grantOne_cases s
  · exact .of_eq _ _ _ (by rw [hsame])
  · have hsettled := (settleSweep_swept (grantTo_aheadSeen h slot cls)).region k
    rwa [(grantTo_rsw slot cls s).1, ← hgrant] at hsettled

/-- The end of an entry's write leaves the lines of the Ahead List among those it held. -/
theorem aheadAfterWrite_rsw (i : Fin 32) (written : Bool) (s : State) :
    (aheadAfterWrite i written s).rsw.regions = s.rsw.regions ∧
    (aheadAfterWrite i written s).rsw.engine = s.rsw.engine ∧
    (aheadLines (aheadAfterWrite i written s)).Sublist (aheadLines s) := by
  unfold aheadAfterWrite
  split
  · rename_i e _
    split
    · split
      · refine ⟨rfl, rfl, ?_⟩
        have hlines : ∀ r : AheadRecord, (if isInFlightOf e.line r then { r with state := .written } else r).line = r.line := by
          intro r; split <;> rfl
        simp [aheadLines, aheadWritten, Function.comp_def, hlines]
      · exact ⟨rfl, rfl, List.filter_sublist.map _⟩
    · exact ⟨rfl, rfl, List.Sublist.refl _⟩
  · exact ⟨rfl, rfl, List.Sublist.refl _⟩

theorem aheadAfterWrite_swept {seen : Fin 8 → Nat → Prop} {s : State} (h : AllSeen seen s) (i : Fin 32) (written : Bool) :
    SweptOn seen s (aheadAfterWrite i written s) := by
  obtain ⟨hr, -, ha⟩ := aheadAfterWrite_rsw i written s
  refine ⟨fun _ => .of_eq _ _ _ (by rw [hr]), fun r hmem _ k => ?_, ha, by simp⟩
  obtain ⟨x, hx, hline⟩ := List.mem_map.1 (ha.subset (List.mem_map_of_mem hmem))
  exact hline ▸ h x hx k

theorem receive_swept {seen : Fin 8 → Nat → Prop} {s : State} (r : MemoryResponse) (h : AllSeen seen s)
    (hw : WriteSeen seen s) : SweptOn seen s (receive r s) := by
  have hs : SweptOn seen s s := .refl h.aheadSeen
  have hfree : SweptOn seen s (freeSlot r.slot s) := hs.then_same rfl List.prefix_rfl
  obtain ⟨i, line, -, -, h'⟩ | ⟨i, line, -, -, h'⟩ | ⟨c, n, line, -, -, h'⟩ | ⟨line, -, -, h'⟩ | ⟨purpose, line, -, h'⟩ | h' :=
    receive_cases r s
  · rw [h']
    cases hread : readData r with
    | none =>
      rw [fetchReturned_failed hread]
      exact ((hfree.ends i _).claimEnds line).entryEnded
    | some data =>
      obtain ⟨memory, corrected⟩ := data
      obtain ⟨counters, hcount⟩ := countCorrected_nu corrected s
      cases he : s.lat.entries.get i with
      | none =>
        rw [fetchReturned_free hread he, hcount]
        exact hs.then_same rfl List.prefix_rfl
      | some e =>
        rw [fetchReturned_merged hread he, hcount]
        exact hs.then_same rfl List.prefix_rfl
  · rw [h']
    exact (((hfree.trans (aheadAfterWrite_swept (s := freeSlot r.slot s) h i (writeDone r))).ends i _).claimEnds line).entryEnded
  · rw [h', readReturned_eq]
    refine (testDrain_swept (SweptOn.claimEnds line ?_)).settled
    exact hfree.then_same (by simp) (pieceReturned_posted c n r _).queue_prefix
  · rw [h']
    exact (testDrain_swept ((hfree.trans
      (sweepWriteEnd_swept (s := freeSlot r.slot s) _ h.aheadSeen hw)).claimEnds line)).settled
  · rw [h']
    exact ((hs.then_same (u := freeSlot r.slot (post _ (countOne .lateResponses s))) rfl
      (postToNu_queue_prefix _ (countOne .lateResponses s).nu)).claimEnds line).settled
  · rw [h']
    exact hs.then_same rfl (postToNu_queue_prefix _ _)

theorem ownerTimeout_swept {seen : Fin 8 → Nat → Prop} {s : State} (owner : Owner) (h : AllSeen seen s)
    (hw : WriteSeen seen s) : SweptOn seen s (ownerTimeout owner s) := by
  cases owner with
  | fetchOf i => exact (SweptOn.refl h.aheadSeen).ends i _
  | writeOf i => exact (aheadAfterWrite_swept h i false).ends i _
  | readOf c n =>
    exact (SweptOn.refl h.aheadSeen).then_same (by simp [ownerTimeout]) (failPiece_posted c n _ _ s).posted.queue_prefix
  | sweepEngine => exact sweepWriteEnd_swept (some .timeout) h.aheadSeen hw

theorem expireSlot_swept {seen : Fin 8 → Nat → Prop} {s : State} (slot : Fin 16) (h : AllSeen seen s)
    (hw : WriteSeen seen s) : SweptOn seen s (expireSlot slot s) := by
  have hs : SweptOn seen s s := .refl h.aheadSeen
  obtain ⟨owner, line, sent, deadline, -, h'⟩ | h' := expireSlot_cases slot s
  · have horphan : SweptOn seen s (orphanSlot slot owner line sent deadline s) := hs.then_same rfl List.prefix_rfl
    have htold : SweptOn seen s (toldOrphan slot owner line sent deadline s) :=
      (horphan.trans (ownerTimeout_swept owner h hw)).then_same (by simp [toldOrphan])
        (judgeStall_posted _).posted.queue_prefix
    rw [h']
    split
    · exact htold.entryEnded
    · exact (testDrain_swept htold).settled
  · rw [h']
    exact hs

theorem pacingEnds_swept {seen : Fin 8 → Nat → Prop} {s : State} (h : AheadSeen seen s) : SweptOn seen s (pacingEnds s) := by
  unfold pacingEnds
  split
  · rename_i u _
    have hnow : SweptOn seen s (atTime u s) := (SweptOn.refl h).then_same rfl List.prefix_rfl
    exact (hnow.trans (evaluate_swept hnow.ahead)).settled
  all_goals exact .refl h

theorem takeAt_posted (time : Nat) (s : State) : Posted [8, 9] s.nu (takeAt time s).nu := by
  unfold takeAt
  dsimp only
  split
  · exact .refl _ _
  · exact takeHead_posted _ _

/-- Every event but a GRANT and the end of a whole TAKE_NOTICE frame leaves the sweep alone or sweeps lines that it has seen. -/
theorem eventAct_sweptOn {c : Instr} {act : State → State} (hc : eventAct c = some act) {seen : Fin 8 → Nat → Prop}
    {s : State} (h : AllSeen seen s) (hw : WriteSeen seen s) :
    (∃ time, c = .grant time) ∨ (act s).rsw = s.rsw ∨ SweptOn seen s (act s) := by
  cases c <;> cases hc
  case grant time => exact .inl ⟨time, rfl⟩
  case memoryResponse time r =>
    have hr := receive_swept (s := atTime time s) r h hw
    exact .inr (.inr ⟨hr.region, hr.ahead, hr.lines, hr.queue⟩)
  case slotDeadline slot => exact .inr (.inr (expireSlot_swept slot h hw))
  case pacingEnd => exact .inr (.inr (pacingEnds_swept h.aheadSeen))
  all_goals exact .inr (.inl (by simp))

/-- Every event sweeps each region over lines that it has seen. -/
theorem eventAct_swept {c : Instr} {act : State → State} (hc : eventAct c = some act) {seen : Fin 8 → Nat → Prop}
    {s : State} (h : AllSeen seen s) (hw : WriteSeen seen s) (k : Fin 8) :
    RegionSwept k (seen k) (act s).nu.queue (s.rsw.regions.get k) ((act s).rsw.regions.get k) := by
  obtain ⟨time, rfl⟩ | hsame | hswept := eventAct_sweptOn hc h hw
  · cases hc
    exact grantOne_swept (s := atTime time s) h.aheadSeen k
  · exact .of_eq _ _ _ (by rw [hsame])
  · exact hswept.region k

/-- Where a fresh evaluation follows a definition, only lines that are seen are passed. -/
theorem evaluateAfterDefine_swept {seen : Fin 8 → Nat → Prop} {s : State} (h : AheadSeen seen s) :
    SweptOn seen s (evaluateAfterDefine s) := by
  unfold evaluateAfterDefine
  split
  · split
    case h_1 | h_2 | h_3 => exact evaluate_swept h
    all_goals exact .refl h
  · exact .refl h

theorem evaluateOnline_swept {seen : Fin 8 → Nat → Prop} {s : State} (h : AheadSeen seen s) :
    SweptOn seen s (evaluateOnline s) := by
  unfold evaluateOnline
  split
  · exact .refl h
  all_goals exact evaluate_swept h

theorem SweptOn.online {seen : Fin 8 → Nat → Prop} {s t : State} (h : SweptOn seen s t) : SweptOn seen s (comeOnline t) := by
  have hjudged := h.then_same (u := judgeHead (setMode .online t)) (by simp) (by simp)
  exact (hjudged.trans (evaluateOnline_swept hjudged.ahead)).settled

/-- The level item alone brings a judgement of the sweep. -/
theorem giveItem_swept {seen : Fin 8 → Nat → Prop} {s : State} (item : Item) (value : BitVec 32) (h : AheadSeen seen s) :
    SweptOn seen s (giveItem item value s) := by
  cases item
  case sweepUrgentLevel =>
    exact ((SweptOn.refl h).then_same (u := withUrgentLevel value s) rfl List.prefix_rfl).settled
  all_goals exact (SweptOn.refl h).then_same rfl List.prefix_rfl

theorem engineLeaves_rsw (s : State) : (engineLeaves s).rsw.regions = s.rsw.regions ∧
    (engineLeaves s).rsw.ahead = s.rsw.ahead := by
  unfold engineLeaves
  split <;> exact ⟨rfl, rfl⟩

theorem startDrain_rsw (s : State) : (startDrain s).rsw.regions = s.rsw.regions ∧
    (startDrain s).rsw.ahead = s.rsw.ahead := by
  unfold startDrain
  simp only [judgeStarvation_rsw, testDrain_frame]
  exact engineLeaves_rsw _

@[simp] theorem abortLong_rsw (s : State) : (abortLong s).rsw = s.rsw := by unfold abortLong; split <;> rfl

/-- The sweep after a warm reset: its engine IDLE, its regions as they were, and the WRITTEN records left (R99, R112). -/
theorem warmReset_rsw (s : State) : (warmReset s).rsw =
    { s.rsw with ahead := s.rsw.ahead.filter (fun r => r.state == .written), engine := .idle } := by
  have hcleared : (clearTraffic (abortResponses (abortLong s))).rsw =
      { s.rsw with ahead := s.rsw.ahead.filter (fun r => r.state == .written), engine := .idle } := by
    simp [clearTraffic, abortResponses]
  unfold warmReset
  dsimp only
  split
  · rw [(judgeStall_frame _).2.2.2.2.2.1, hcleared]
  · exact hcleared

/-- The frames but DEFINE_REGION and RETIRE_REGION sweep lines that they have seen. -/
theorem frameAct_swept {c : Instr} {act : State → State} (hc : frameAct c = some act) {seen : Fin 8 → Nat → Prop}
    {s : State} (h : AllSeen seen s) (hdefine : ∀ index base size mode pattern, c ≠ .defineRegion index base size mode pattern)
    (hretire : ∀ index, c ≠ .retireRegion index) : SweptOn seen s (act s) := by
  have hs : SweptOn seen s s := .refl h.aheadSeen
  cases c <;> cases hc
  case defineRegion => exact absurd rfl (hdefine _ _ _ _ _)
  case retireRegion => exact absurd rfl (hretire _)
  case setItem code value =>
    unfold setItem
    split
    · split
      · exact (giveItem_swept _ value h.aheadSeen).then_same rfl List.prefix_rfl
      · exact hs.then_same rfl List.prefix_rfl
    · exact hs.then_same rfl List.prefix_rfl
  case goOnline =>
    unfold goOnline
    split
    · exact (hs.then_same (u := answer .done s) rfl List.prefix_rfl).online
    · exact hs.then_same rfl List.prefix_rfl
  case resume =>
    unfold resume
    split
    · refine SweptOn.online (hs.then_same ?_ (abandonDrain_posted (answer .done s)).posted.queue_prefix)
      simp
    · exact hs.then_same rfl List.prefix_rfl
  case quiesce =>
    have hq := (quiesce_posted s).posted.queue_prefix
    unfold quiesce at hq ⊢
    split at hq
    · split at hq
      · rename_i hm hr
        obtain ⟨hregions, hahead⟩ := startDrain_rsw s
        simp only [hm, hr, if_true]
        exact .of_rsw hregions hahead h.aheadSeen hq
      · rename_i hm hr
        simp only [hm, hr, if_true, if_false]
        exact hs.then_same rfl List.prefix_rfl
    · rename_i hm
      simp only [hm, if_false]
      exact hs.then_same rfl List.prefix_rfl
  case resetBridge =>
    have hr : (answer .done (warmReset s)).rsw = _ := warmReset_rsw s
    refine ⟨fun k => .of_eq _ _ _ (by rw [hr]), fun r hmem => ?_, ?_, (warmReset_posted s).posted.queue_prefix⟩
    · rw [hr] at hmem
      exact h.aheadSeen r (List.mem_of_mem_filter hmem)
    · rw [aheadLines, hr]
      exact List.filter_sublist.map _
  case flush => exact hs.then_same (by simp) (by simp)
  case reclaimSlots => exact hs.then_same (by simp) (by simp)
  case getItem code => exact hs.then_same (by unfold getItem; split <;> rfl) (by unfold getItem; split <;> exact List.prefix_rfl)
  case readRegion index =>
    exact hs.then_same (by unfold readRegion; split <;> rfl) (by unfold readRegion; split <;> exact List.prefix_rfl)
  case readRule index =>
    exact hs.then_same (by unfold readRule; split <;> rfl) (by unfold readRule; split <;> exact List.prefix_rfl)
  case setRule =>
    unfold setRule
    split
    · split <;> exact hs.then_same rfl List.prefix_rfl
    · exact hs.then_same rfl List.prefix_rfl
  case clearRule =>
    unfold clearRule
    split
    · split <;> exact hs.then_same rfl List.prefix_rfl
    · exact hs.then_same rfl List.prefix_rfl
  case takeNotice =>
    unfold takeNotice
    split <;> exact hs.then_same rfl List.prefix_rfl
  all_goals exact hs.then_same rfl List.prefix_rfl

end Sys2Proof.Machine
end

section
/-! The commands that make a region present or absent (R93, R94), and the statements about the Region Table: its law (R90, R97) and the
transitions of Table 5-2 (R96, R110). -/

namespace Sys2Proof.Machine

/-! ## DEFINE_REGION and RETIRE_REGION -/

/-- DEFINE_REGION refuses, or makes a record that was ABSENT present and, for SWEEP, judges the sweep (R93, R103). -/
theorem defineRegion_cases (index : Byte) (base : BitVec 40) (size : BitVec 32) (mode : Byte) (pattern : Table Byte 8)
    (s : State) : defineRegion index base size mode pattern s = answer .refusedArgument s ∨
      ∃ k sweep, indexArgument index = some k ∧ defineModeArgument mode = some sweep ∧ s.rsw.regions.get k = .absent ∧
        rangeAllowed s.rsw base.toNat (size.toNat * Config.regionUnit) = true ∧
        ∃ put, put = putRegion k (definedRegion base.toNat (size.toNat * Config.regionUnit) sweep pattern) s ∧
          defineRegion index base size mode pattern s =
            answer .done (if sweep then settleSweep (evaluateAfterDefine put) else put) := by
  unfold defineRegion
  dsimp only
  split
  · rename_i k sweep hk hsweep
    split
    · rename_i h
      exact .inr ⟨k, sweep, hk, hsweep, h.1, h.2, _, rfl, rfl⟩
    · exact .inl rfl
  · exact .inl rfl

/-- RETIRE_REGION refuses, or removes the record (R94). -/
theorem retireRegion_cases (index : Byte) (s : State) :
    (∃ status, retireRegion index s = answer status s) ∨
    ∃ k, indexArgument index = some k ∧ atRest s.mc.mode = true ∧ retireRegion index s = answer .done (removeRegion k s) := by
  unfold retireRegion
  split
  · rename_i hm
    split
    · rename_i k hk
      exact .inr ⟨k, hk, hm, rfl⟩
    · exact .inl ⟨_, rfl⟩
  · exact .inl ⟨_, rfl⟩

theorem removeRegion_get (k j : Fin 8) (s : State) :
    (removeRegion k s).rsw.regions.get j = if k = j then .absent else s.rsw.regions.get j := by
  unfold removeRegion
  split
  · rename_i h
    split
    · rename_i hj
      rw [← hj, h]
    · rfl
  · exact Table.get_set _ _ _ _

/-! ## The law of the Region Table -/

/-- The range of a record is whole units within the memory space (R90, R93). -/
def RangeSound (i : RegionInfo) : Prop :=
  i.base % 65536 = 0 ∧ i.size % 65536 = 0 ∧ 0 < i.size ∧ i.base + i.size ≤ 1099511627776

theorem regionSound_sweeping_iff (i : RegionInfo) (w : Nat) : regionSound (.sweeping i w) = true ↔
    RangeSound i ∧ w % 64 = 0 ∧ i.base ≤ w ∧ w < i.base + i.size := by
  unfold regionSound
  simp only [Region.info, Option.all_some, Bool.and_eq_true, decide_eq_true_eq]
  rfl

theorem regionSound_ready_iff (i : RegionInfo) : regionSound (.ready i) = true ↔ RangeSound i := by
  unfold regionSound
  simp only [Region.info, Option.all_some, Bool.and_true, decide_eq_true_eq]
  rfl

/-- Where a record is present, its base and size. -/
def rangeOf (r : Region) : Option (Nat × Nat) := r.info.map (fun i => (i.base, i.size))

theorem regionsMeet_eq (a b : Region) : regionsMeet a b =
    match rangeOf a, rangeOf b with
    | some x, some y => decide (x.1 < y.1 + y.2 ∧ y.1 < x.1 + x.2)
    | _, _ => false := by
  unfold regionsMeet rangeOf
  cases a.info <;> cases b.info <;> rfl

theorem regionsMeet_comm (a b : Region) : regionsMeet a b = regionsMeet b a := by
  unfold regionsMeet
  cases a.info <;> cases b.info <;> simp [and_comm]

/-- The sweep leaves a region where it is. -/
theorem RegionSwept.rangeOf_eq {k : Fin 8} {seen : Nat → Prop} {queue : List Notice} {r r' : Region}
    (h : RegionSwept k seen queue r r') : rangeOf r' = rangeOf r := by
  cases h with
  | absent => rfl
  | ready i => rfl
  | sweeping n hsame _ _ => simp [rangeOf, Region.info, hsame.base, hsame.size]
  | done n hsame _ _ _ _ => simp [rangeOf, Region.info, hsame.base, hsame.size]

/-- A watermark that has not stood at the end of its region stands before it. -/
theorem RegionSwept.sound {k : Fin 8} {seen : Nat → Prop} {queue : List Notice} {r r' : Region}
    (h : RegionSwept k seen queue r r') (hr : regionSound r = true) : regionSound r' = true := by
  cases h with
  | absent => rfl
  | ready i => exact hr
  | @sweeping i i' w n hsame _ hbelow =>
    rw [regionSound_sweeping_iff] at hr ⊢
    unfold RangeSound at hr ⊢
    rw [hsame.base, hsame.size]
    obtain ⟨hrange, halign, hle, hlt⟩ := hr
    refine ⟨hrange, by omega, by omega, ?_⟩
    by_contra hend
    exact hbelow ((i.base + i.size - w) / 64) (by omega) (by omega) (by omega)
  | done n hsame _ _ _ _ =>
    rw [regionSound_sweeping_iff] at hr
    rw [regionSound_ready_iff]
    unfold RangeSound at hr ⊢
    rw [hsame.base, hsame.size]
    exact hr.1

theorem RegionLaw.swept {s t : State} {seen : Fin 8 → Nat → Prop} {queue : List Notice} (hs : RegionLaw s)
    (h : ∀ k, RegionSwept k (seen k) queue (s.rsw.regions.get k) (t.rsw.regions.get k)) : RegionLaw t := by
  obtain ⟨hsound, hapart⟩ := hs
  refine ⟨fun k => (h k).sound (hsound k), fun j k hjk => ?_⟩
  rw [regionsMeet_eq, (h j).rangeOf_eq, (h k).rangeOf_eq, ← regionsMeet_eq]
  exact hapart j k hjk

theorem RegionLaw.of_regions {s t : State} (hs : RegionLaw s) (h : t.rsw.regions = s.rsw.regions) : RegionLaw t := by
  unfold RegionLaw
  rw [h]
  exact hs

/-- Removing a record keeps the others sound and apart. -/
theorem RegionLaw.removed {s t : State} (k : Fin 8) (hs : RegionLaw s)
    (h : ∀ j, t.rsw.regions.get j = if k = j then .absent else s.rsw.regions.get j) : RegionLaw t := by
  obtain ⟨hsound, hapart⟩ := hs
  constructor
  · intro j
    rw [h]
    split
    · rfl
    · exact hsound j
  · intro i j hij
    rw [h, h]
    split
    · rfl
    · split
      · rw [regionsMeet_comm]; rfl
      · exact hapart i j hij

/-- A new record that is sound and apart from all present ones keeps the law. -/
theorem RegionLaw.put {s : State} {k : Fin 8} {r : Region} (hs : RegionLaw s) (hr : regionSound r = true)
    (hapart : ∀ j, j ≠ k → regionsMeet r (s.rsw.regions.get j) = false) : RegionLaw (putRegion k r s) := by
  have hget : ∀ j, (putRegion k r s).rsw.regions.get j = if k = j then r else s.rsw.regions.get j :=
    fun j => Table.get_set _ _ _ _
  constructor
  · intro j
    rw [hget]
    split
    · exact hr
    · exact hs.1 j
  · intro i j hij
    rw [hget, hget]
    split
    · rename_i hi
      rw [if_neg (fun hj => hij (hi.symm.trans hj))]
      exact hapart j (fun hj => hij (hi.symm.trans hj.symm))
    · rename_i hi
      split
      · rw [regionsMeet_comm]
        exact hapart i (Ne.symm hi)
      · exact hs.2 i j hij

theorem definedRegion_info (base size : Nat) (sweep : Bool) (pattern : Table Byte 8) :
    (definedRegion base size sweep pattern).info =
      some { base := base, size := size, pattern := pattern, faults := 0#16 } := by
  cases sweep <;> rfl

/-- A range that DEFINE_REGION allows makes a sound record, apart from those present (R93). -/
theorem RegionLaw.defined {s : State} {k : Fin 8} {base units : Nat} (sweep : Bool) (pattern : Table Byte 8)
    (hs : RegionLaw s) (h : rangeAllowed s.rsw base (units * Config.regionUnit) = true) :
    RegionLaw (putRegion k (definedRegion base (units * Config.regionUnit) sweep pattern) s) := by
  obtain ⟨hrange, hall⟩ := Bool.and_eq_true_iff.1 h
  have hrange := of_decide_eq_true hrange
  have hsound : RangeSound { base := base, size := units * Config.regionUnit, pattern := pattern, faults := 0#16 } := by
    unfold RangeSound
    simp only [Config.regionUnit, Config.spaceBytes] at hrange ⊢
    omega
  refine hs.put ?sound fun j _ => ?apart
  case sound =>
    cases sweep
    · exact (regionSound_ready_iff _).2 hsound
    · refine (regionSound_sweeping_iff _ _).2 ⟨hsound, ?_⟩
      unfold RangeSound at hsound
      dsimp only at hsound ⊢
      omega
  case apart =>
    have hj := (Table.all_iff _ _).1 hall j
    unfold overlapsRegion at hj
    unfold regionsMeet
    rw [definedRegion_info]
    cases hi : (s.rsw.regions.get j).info with
    | none => rfl
    | some i => simpa only [hi, Option.any_some, Bool.not_eq_true'] using hj

theorem regionLaw_kept : KeptByActs RegionLaw where
  noAct _ _ _ _ _ _ hs := hs
  powerOn held s := by
    refine ⟨fun k => ?_, fun j k _ => ?_⟩
    · change regionSound ((Table.fill 8 Region.absent).get k) = true
      rw [Table.get_fill]; rfl
    · change regionsMeet ((Table.fill 8 Region.absent).get j) _ = false
      rw [Table.get_fill]; rfl
  flushEnd s hs := hs.of_regions (by simp)
  event c act s hc hs := by
    exact hs.swept (eventAct_swept hc (seen := fun _ _ => True) (fun _ _ _ => trivial) (fun _ _ _ _ _ _ => trivial))
  frame c act s hc hs := by
    by_cases hdefine : ∃ index base size mode pattern, c = .defineRegion index base size mode pattern
    · obtain ⟨index, base, size, mode, pattern, rfl⟩ := hdefine
      cases hc
      obtain h | ⟨k, sweep, -, -, -, hallowed, put, rfl, h⟩ := defineRegion_cases index base size mode pattern s
      · rw [h]; exact hs
      · have hput := hs.defined (k := k) sweep pattern hallowed
        rw [h]
        cases sweep
        · exact hput
        · exact hput.swept ((evaluateAfterDefine_swept (seen := fun _ _ => True) (fun _ _ _ _ => trivial)).settled).region
    · by_cases hretire : ∃ index, c = .retireRegion index
      · obtain ⟨index, rfl⟩ := hretire
        cases hc
        obtain ⟨status, h⟩ | ⟨k, -, -, h⟩ := retireRegion_cases index s
        · rw [h]; exact hs
        · rw [h]; exact hs.removed k (fun j => removeRegion_get k j s)
      · exact hs.swept (frameAct_swept hc (seen := fun _ _ => True) (s := s) (fun _ _ _ => trivial)
          (fun i b z m p h => hdefine ⟨i, b, z, m, p, h⟩) (fun i h => hretire ⟨i, h⟩)).region

/-- Settles O53: every act sweeps the regions, or defines or removes one, and each of these keeps them sound and apart. -/
theorem regionsStaySound : Obligations.RegionsStaySound := fun _ _ hs h => regionLaw_kept.step hs h

/-! ## The transitions of Table 5-2 -/

/-- The lines that an act on `s` can pass: the watermark of a region that the engine is writing, and those of the Ahead List. -/
def PassableFrom (s : State) (k : Fin 8) (line : Nat) : Prop :=
  (∃ l i, s.rsw.engine = .writing k l ∧ s.rsw.regions.get k = .sweeping i line) ∨ ∃ r ∈ s.rsw.ahead, r.line = line

theorem allSeen_passable (s : State) : AllSeen (PassableFrom s) s := fun r hr _ => .inr ⟨r, hr, rfl⟩

theorem writeSeen_passable (s : State) : WriteSeen (PassableFrom s) s := fun _ l info _ he hk => .inl ⟨l, info, he, hk⟩

/-- The transitions of Table 5-2 that the command `c` may make of region `k` (R96). -/
def RegionListed (c : Instr) (s t : State) (k : Fin 8) : Prop :=
  (s.rsw.regions.get k = .absent → t.rsw.regions.get k ≠ .absent →
    ∃ index base size mode pattern, c = .defineRegion index base size mode pattern) ∧
  (∀ i, s.rsw.regions.get k = .ready i → t.rsw.regions.get k ≠ .ready i →
    t.rsw.regions.get k = .absent ∧ ((∃ x, c = .retireRegion x) ∨ c = .powerOnReset ∨ c = .resetReleased)) ∧
  (∀ i w, s.rsw.regions.get k = .sweeping i w →
    (∃ i' w', t.rsw.regions.get k = .sweeping i' w' ∧ i'.base = i.base ∧ i'.size = i.size ∧
      i'.pattern = i.pattern ∧ w ≤ w' ∧ i.faults ≤ i'.faults) ∨
    (∃ i', t.rsw.regions.get k = .ready i' ∧ i'.base = i.base ∧ i'.size = i.size ∧ i'.pattern = i.pattern ∧
      i.faults ≤ i'.faults ∧
      (∀ line, w ≤ line → line < i.base + i.size → line % 64 = w % 64 →
        (line = w ∧ ∃ l, s.rsw.engine = .writing k l) ∨ ∃ r ∈ s.rsw.ahead, r.line = line) ∧
      (∃ passed, i.base + i.size = w + 64 * passed ∧ 0 < passed) ∧
      (t.nu.queue.length < 32 → ∃ n ∈ t.nu.queue, n.body = .sweepDone k i'.faults)) ∨
    (t.rsw.regions.get k = .absent ∧ ((∃ x, c = .retireRegion x) ∨ c = .powerOnReset ∨ c = .resetReleased)))

/-- A region that the sweep alone has changed makes listed transitions only. -/
theorem RegionSwept.listed {s t : State} {k : Fin 8} (c : Instr)
    (h : RegionSwept k (PassableFrom s k) t.nu.queue (s.rsw.regions.get k) (t.rsw.regions.get k)) :
    RegionListed c s t k := by
  have habsent := h
  generalize ha : s.rsw.regions.get k = a at habsent
  generalize hb : t.rsw.regions.get k = b at habsent
  unfold RegionListed
  rw [ha, hb]
  cases habsent with
  | absent => simp
  | ready j => simp
  | @sweeping j j' v n hsame _ _ =>
    refine ⟨by simp, by simp, fun i w he => .inl ?_⟩
    cases he
    exact ⟨j', _, rfl, hsame.base, hsame.size, hsame.pattern, by omega, hsame.faults⟩
  | @done j j' v n hsame hpos hseen hend hposted =>
    refine ⟨by simp, by simp, fun i w he => .inr (.inl ?_)⟩
    cases he
    refine ⟨j', rfl, hsame.base, hsame.size, hsame.pattern, hsame.faults, fun line hle hlt halign => ?_,
      ⟨n, hend.symm, hpos⟩, hposted⟩
    have hline : line = v + 64 * ((line - v) / 64) := by omega
    obtain ⟨l, i, hengine, hsweeping⟩ | hahead := hseen ((line - v) / 64) (by omega)
    · rw [ha] at hsweeping
      injection hsweeping with _ hv
      exact .inl ⟨by omega, l, hengine⟩
    · exact .inr (hline ▸ hahead)

theorem regionListed_of_eq {s t : State} {k : Fin 8} (c : Instr) (h : t.rsw.regions.get k = s.rsw.regions.get k) :
    RegionListed c s t k := RegionSwept.listed c (.of_eq _ _ _ h)

/-- A region that becomes ABSENT does so by a retire or a power-on reset. -/
theorem regionListed_of_absent {c : Instr} {s t : State} {k : Fin 8} (h : t.rsw.regions.get k = .absent)
    (hc : (∃ x, c = .retireRegion x) ∨ c = .powerOnReset ∨ c = .resetReleased) : RegionListed c s t k :=
  ⟨fun _ hne => absurd h hne, fun _ _ _ => ⟨h, hc⟩, fun _ _ _ => .inr (.inr ⟨h, hc⟩)⟩

theorem defineRegion_listed (index : Byte) (base : BitVec 40) (size : BitVec 32) (mode : Byte) (pattern : Table Byte 8)
    (s : State) (k : Fin 8) : RegionListed (.defineRegion index base size mode pattern) s
      (defineRegion index base size mode pattern s) k := by
  obtain h | ⟨j, sweep, -, -, hj, -, put, rfl, h⟩ := defineRegion_cases index base size mode pattern s
  · rw [h]
    exact regionListed_of_eq _ rfl
  · by_cases hk : s.rsw.regions.get k = .absent
    · refine ⟨fun _ _ => ⟨index, base, size, mode, pattern, rfl⟩, fun i hi => ?_, fun i w hi => ?_⟩
      · rw [hk] at hi; cases hi
      · rw [hk] at hi; cases hi
    · have hget : ∀ r, (putRegion j r s).rsw.regions.get k = s.rsw.regions.get k := fun r =>
        Table.get_set_ne _ (fun he : j = k => hk (he ▸ hj)) r
      have hput : AheadSeen (PassableFrom s) (putRegion j
          (definedRegion base.toNat (size.toNat * Config.regionUnit) sweep pattern) s) := (allSeen_passable s).aheadSeen
      rw [h]
      cases sweep
      · exact regionListed_of_eq _ (hget _)
      · have hregion := ((evaluateAfterDefine_swept hput).settled).region k
        rw [hget] at hregion
        exact hregion.listed _

theorem frameAct_listed {c : Instr} {act : State → State} (hc : frameAct c = some act) (s : State) (k : Fin 8) :
    RegionListed c s (act s) k := by
  by_cases hdefine : ∃ index base size mode pattern, c = .defineRegion index base size mode pattern
  · obtain ⟨index, base, size, mode, pattern, rfl⟩ := hdefine
    cases hc
    exact defineRegion_listed index base size mode pattern s k
  · by_cases hretire : ∃ index, c = .retireRegion index
    · obtain ⟨index, rfl⟩ := hretire
      cases hc
      obtain ⟨status, h⟩ | ⟨j, -, -, h⟩ := retireRegion_cases index s
      · rw [h]
        exact regionListed_of_eq _ rfl
      · rw [h]
        have hget : (answer .done (removeRegion j s)).rsw.regions.get k = _ := removeRegion_get j k s
        by_cases hj : j = k
        · exact regionListed_of_absent (by rw [hget, if_pos hj]) (.inl ⟨index, rfl⟩)
        · exact regionListed_of_eq _ (by rw [hget, if_neg hj])
    · exact ((frameAct_swept hc (allSeen_passable s) (fun i b z m p h => hdefine ⟨i, b, z, m, p, h⟩)
        (fun i h => hretire ⟨i, h⟩)).region k).listed c

/-- Settles O58: an act sweeps each region over lines that it has seen, or is a definition, a retire or a power-on reset. -/
theorem regionsChangeOnlyAsListed : Obligations.RegionsChangeOnlyAsListed := by
  intro c s t k h
  change RegionListed c s t k
  obtain ⟨act, hc, -, rfl⟩ | ⟨act, hc, -, rfl⟩ | ⟨hc, held, rfl⟩ | ⟨link, frame, broken, rfl⟩ := exec_cases h
  · exact (eventAct_swept hc (allSeen_passable s) (writeSeen_passable s) k).listed c
  · have hstart : (frameStart s).rsw = s.rsw := by simp
    have hlisted := frameAct_listed hc (frameStart s) k
    unfold RegionListed at hlisted ⊢
    rwa [hstart] at hlisted
  · refine regionListed_of_absent ?_ (.inr hc)
    change (Table.fill 8 Region.absent).get k = .absent
    exact Table.get_fill _ _
  · exact regionListed_of_eq c rfl

end Sys2Proof.Machine
end

section
/-! The orders and bounds of the lists (R99, R135, R160, R162): what every act makes of the Ahead List, of the Intake Queue and of the
Notice Queue, and the statement about them. -/

namespace Sys2Proof.Machine

/-! ## The Ahead List -/

theorem aheadLaw_iff (s : State) :
    AheadLaw s ↔ (aheadLines s).Pairwise (· < ·) ∧ (aheadLines s).length ≤ Config.aheadCapacity := by
  unfold AheadLaw aheadLines
  rw [List.pairwise_map, List.length_map]

/-- Records that leave the list keep its order and its bound. -/
theorem AheadLaw.sublist {s t : State} (hs : AheadLaw s) (h : (aheadLines t).Sublist (aheadLines s)) : AheadLaw t := by
  rw [aheadLaw_iff] at hs ⊢
  exact ⟨hs.1.sublist h, h.length_le.trans hs.2⟩

theorem AheadLaw.of_ahead {s t : State} (hs : AheadLaw s) (h : t.rsw.ahead = s.rsw.ahead) : AheadLaw t := by
  unfold AheadLaw
  rwa [h]

/-- The eligibility of an entry, condition by condition (R25). -/
theorem eligible_iff (s : State) (i : Fin 32) : eligible s i = true ↔ ∃ e, s.lat.entries.get i = some e ∧
    mayIssue s i e = true ∧ isSuppressed e = false ∧ (fillFor s e ≠ .pattern ∨ aheadHasRoom s.rsw = true) := by
  unfold eligible
  rw [entryIs_iff]
  simp only [Bool.and_eq_true, Bool.or_eq_true, Bool.not_eq_true', bne_iff_ne, and_assoc]

theorem firstEligible_some {s : State} {i : Fin 32} (h : firstEligible s = some i) :
    i ∈ s.lat.issueQueue ∧ eligible s i = true :=
  ⟨List.mem_of_find?_eq_some h, List.find?_some h⟩

/-- The first eligible entry, read through its record. -/
theorem firstEligible_entry {s : State} {i : Fin 32} {e : Entry} (h : firstEligible s = some i)
    (he : s.lat.entries.get i = some e) : mayIssue s i e = true ∧ isSuppressed e = false ∧
      (fillFor s e ≠ .pattern ∨ aheadHasRoom s.rsw = true) := by
  obtain ⟨x, hx, hall⟩ := (eligible_iff s i).1 (firstEligible_some h).2
  cases he.symm.trans hx
  exact hall

theorem fillFor_pattern {s : State} {e : Entry} (h : fillFor s e = .pattern) :
    cellsFull e.cells = false ∧ ∃ pattern, uninitialisedPattern s.rsw e.line = some pattern := by
  unfold fillFor at h
  split at h
  · cases h
  · rename_i hfull
    split at h
    · rename_i hp
      exact ⟨by simpa using hfull, Option.isSome_iff_exists.1 hp⟩
    · cases h

/-- PATTERN fill inserts a record for a line that has none, where the list has room (R25, R98, R100). -/
theorem aheadAfterIssue_law {s : State} {i : Fin 32} {e : Entry} (hi : firstEligible s = some i)
    (he : s.lat.entries.get i = some e) (hs : AheadLaw s) :
    (aheadAfterIssue s e).Pairwise (fun a b => a.line < b.line) ∧ (aheadAfterIssue s e).length ≤ Config.aheadCapacity := by
  unfold aheadAfterIssue
  split
  · rename_i k hfill _
    obtain ⟨-, pattern, hpattern⟩ := fillFor_pattern hfill
    obtain ⟨-, -, hroom⟩ := firstEligible_entry hi he
    have hroom : s.rsw.ahead.length < Config.aheadCapacity := by
      simpa [aheadHasRoom] using hroom.resolve_left (fun hne => hne hfill)
    exact ⟨pairwise_insertAhead hs.1 (aheadOf_of_uninitialised hpattern), by rw [length_insertAhead]; exact hroom⟩
  · exact hs

theorem grantTo_aheadLaw {s : State} (hs : AheadLaw s) (slot : Fin 16) (cls : ArbiterClass) :
    AheadLaw (grantTo slot cls s) := by
  cases cls with
  | write =>
    obtain h | ⟨i, e, hi, he, h⟩ := grantWrite_cases slot s
    · exact hs.of_ahead (congrArg (fun t => t.rsw.ahead) h)
    · have hahead : (grantTo slot .write s).rsw.ahead = aheadAfterIssue s e := by simp [grantTo, h]
      unfold AheadLaw
      rw [hahead]
      exact aheadAfterIssue_law hi he hs
  | read => exact hs.of_ahead (grantRead_rsw slot (readCandidates s) s).2
  | sweep => exact hs.of_ahead (grantSweep_rsw slot s).2

/-- With every line seen, the sweep of a step says what becomes of the Ahead List alone. -/
theorem allSeen_true (s : State) : AllSeen (fun _ _ => True) s := fun _ _ _ => trivial

theorem aheadLaw_kept : KeptByActs AheadLaw where
  noAct _ _ _ _ _ _ hs := hs
  powerOn held s := ⟨List.Pairwise.nil, Nat.zero_le _⟩
  flushEnd s hs := hs.of_ahead (by simp)
  event c act s hc hs := by
    obtain ⟨time, rfl⟩ | hsame | hswept := eventAct_sweptOn hc (allSeen_true s) (fun _ _ _ _ _ _ => trivial)
    · cases hc
      obtain h | ⟨slot, cls, -, -, h⟩ := grantOne_cases (atTime time s)
      · exact hs.of_ahead (congrArg (fun t => t.rsw.ahead) h)
      · have hto : AheadLaw (grantTo slot cls (atTime time s)) := grantTo_aheadLaw (s := atTime time s) hs slot cls
        dsimp only
        rw [h]
        exact hto.sublist (settleSweep_swept (allSeen_true _).aheadSeen).lines
    · exact hs.of_ahead (by rw [hsame])
    · exact hs.sublist hswept.lines
  frame c act s hc hs := by
    by_cases hdefine : ∃ index base size mode pattern, c = .defineRegion index base size mode pattern
    · obtain ⟨index, base, size, mode, pattern, rfl⟩ := hdefine
      cases hc
      obtain h | ⟨k, sweep, -, -, -, -, put, rfl, h⟩ := defineRegion_cases index base size mode pattern s
      · rw [h]; exact hs
      · rw [h]
        cases sweep
        · exact hs
        · exact AheadLaw.sublist (s := putRegion k _ s) hs ((evaluateAfterDefine_swept (allSeen_true _).aheadSeen).settled).lines
    · by_cases hretire : ∃ index, c = .retireRegion index
      · obtain ⟨index, rfl⟩ := hretire
        cases hc
        obtain ⟨status, h⟩ | ⟨k, -, -, h⟩ := retireRegion_cases index s
        · rw [h]; exact hs
        · rw [h]
          refine hs.sublist ?_
          change (aheadLines (removeRegion k s)).Sublist _
          unfold removeRegion
          split
          · exact List.Sublist.refl _
          · exact List.filter_sublist.map _
      · exact hs.sublist (frameAct_swept hc (allSeen_true s) (fun i b z m p h => hdefine ⟨i, b, z, m, p, h⟩)
          (fun i h => hretire ⟨i, h⟩)).lines

/-! ## The Intake Queue -/

theorem acceptFromLink_intakeLaw {s : State} (hs : IntakeLaw s) : IntakeLaw (acceptFromLink s) := by
  unfold IntakeLaw at *
  simp only [acceptFromLink, List.length_append, List.length_take]
  omega

theorem IntakeLaw.of_intake {s t : State} (hs : IntakeLaw s) (h : t.rqp.intake = s.rqp.intake) : IntakeLaw t := by
  unfold IntakeLaw
  rwa [h]

theorem leaveIntake_intakeLaw {s : State} (hs : IntakeLaw s) : IntakeLaw (leaveIntake s) := by
  unfold leaveIntake
  refine IntakeLaw.of_intake (s := acceptFromLink { s with rqp := { s.rqp with intake := s.rqp.intake.tail } }) ?_ (by simp)
  refine acceptFromLink_intakeLaw ?_
  unfold IntakeLaw at *
  simp only [List.length_tail]
  omega

/-- A count of a held acknowledgement leaves the requests that wait. -/
theorem countDown_queues (status : HeldStatus) (w : Fin 16) (s : State) :
    (countDown status w s).rqp.intake = s.rqp.intake ∧ (countDown status w s).rqp.link = s.rqp.link := by
  unfold countDown
  split
  · dsimp only
    split <;> exact ⟨rfl, rfl⟩
  · exact ⟨rfl, rfl⟩

theorem countDownHeld_queues (status : HeldStatus) (held : List (Fin 16)) (s : State) :
    (countDownHeld status held s).rqp.intake = s.rqp.intake ∧ (countDownHeld status held s).rqp.link = s.rqp.link := by
  induction held generalizing s with
  | nil => exact ⟨rfl, rfl⟩
  | cons w rest ih =>
    obtain ⟨hintake, hlink⟩ := ih (countDown status w s)
    obtain ⟨hintake', hlink'⟩ := countDown_queues status w s
    exact ⟨hintake.trans hintake', hlink.trans hlink'⟩

/-- What a count makes of the requester port depends on the port alone. -/
theorem countDown_congr (status : HeldStatus) (w : Fin 16) {u v : State} (hr : u.rqp = v.rqp) (ho : u.out = v.out) :
    (countDown status w u).rqp = (countDown status w v).rqp ∧ (countDown status w u).out = (countDown status w v).out := by
  unfold countDown
  rw [hr]
  cases v.rqp.wrt.get w with
  | none => exact ⟨hr, ho⟩
  | some r =>
    dsimp only
    split <;> simp [respondTaken, ho]

theorem countDownHeld_congr (status : HeldStatus) (held : List (Fin 16)) {u v : State} (hr : u.rqp = v.rqp)
    (ho : u.out = v.out) : (countDownHeld status held u).rqp = (countDownHeld status held v).rqp ∧
      (countDownHeld status held u).out = (countDownHeld status held v).out := by
  induction held generalizing u v with
  | nil => exact ⟨hr, ho⟩
  | cons w rest ih =>
    obtain ⟨hr', ho'⟩ := countDown_congr status w hr ho
    exact ih hr' ho'

/-- The requester port after an entry's end: the held acknowledgements counted down (R43). -/
theorem endEntry_rqp {i : Fin 32} {e : Entry} (kind : EndKind) {s : State} (he : s.lat.entries.get i = some e) :
    (endEntry i kind s).rqp = (countDownHeld (endHeldStatus kind) e.held s).rqp ∧
    (endEntry i kind s).out = (countDownHeld (endHeldStatus kind) e.held s).out := by
  unfold endEntry
  rw [he]
  dsimp only
  unfold completionEffects
  dsimp only
  obtain ⟨hr, ho⟩ := countDownHeld_congr (endHeldStatus kind) e.held (u := if endFailed kind then
    setFailureFlags e.contributors (postEnd e kind s) else postEnd e kind s) (v := s) (by split <;> simp) (by split <;> simp)
  exact ⟨by simpa [forgetEntry] using hr, by simpa [forgetEntry] using ho⟩

theorem endEntry_queues (i : Fin 32) (kind : EndKind) (s : State) :
    (endEntry i kind s).rqp.intake = s.rqp.intake ∧ (endEntry i kind s).rqp.link = s.rqp.link := by
  cases he : s.lat.entries.get i with
  | none => simp [endEntry, he]
  | some e =>
    rw [(endEntry_rqp kind he).1]
    exact countDownHeld_queues _ _ s

theorem receive_queues (r : MemoryResponse) (s : State) :
    (receive r s).rqp.intake = s.rqp.intake ∧ (receive r s).rqp.link = s.rqp.link := by
  obtain ⟨i, line, -, -, h⟩ | ⟨i, line, -, -, h⟩ | ⟨c, n, line, -, -, h⟩ | ⟨line, -, -, h⟩ | ⟨purpose, line, -, h⟩ | h :=
    receive_cases r s
  · rw [h]
    cases hread : readData r with
    | none =>
      rw [fetchReturned_failed hread]
      simpa using endEntry_queues i (.lost .fetchFault) (freeSlot r.slot s)
    | some data =>
      obtain ⟨counters, hcount⟩ := countCorrected_nu data.2 s
      cases he : s.lat.entries.get i with
      | none => rw [fetchReturned_free hread he, hcount]; exact ⟨rfl, rfl⟩
      | some e => rw [fetchReturned_merged hread he, hcount]; exact ⟨rfl, rfl⟩
  · rw [h]
    simpa [writeReturned] using endEntry_queues i _ (aheadAfterWrite i (writeDone r) (freeSlot r.slot s))
  all_goals
    rw [h]
    simp

theorem ownerTimeout_queues (owner : Owner) (s : State) :
    (ownerTimeout owner s).rqp.intake = s.rqp.intake ∧ (ownerTimeout owner s).rqp.link = s.rqp.link := by
  cases owner with
  | fetchOf i => exact endEntry_queues i _ s
  | writeOf i => simpa [ownerTimeout] using endEntry_queues i .unconfirmed (aheadAfterWrite i false s)
  | readOf c n => simp [ownerTimeout]
  | sweepEngine => simp [ownerTimeout]

theorem expireSlot_queues (slot : Fin 16) (s : State) :
    (expireSlot slot s).rqp.intake = s.rqp.intake ∧ (expireSlot slot s).rqp.link = s.rqp.link := by
  obtain ⟨owner, line, sent, deadline, -, h⟩ | h := expireSlot_cases slot s
  · have htold := ownerTimeout_queues owner (orphanSlot slot owner line sent deadline s)
    rw [h]
    split
    all_goals simpa [toldOrphan] using htold
  · rw [h]; exact ⟨rfl, rfl⟩

/-- The discard of a barrier entry, or nothing more than the end of its turn (R60). -/
theorem discardNext_cases (s : State) : (s.ord.discards = [] ∧ discardNext s = s) ∨
    ∃ i rest u, s.ord.discards = i :: rest ∧ u = { s with ord := { s.ord with discards := rest } } ∧
      ((suppressedBarrier s.lat i = none ∧ discardNext s = u) ∨
       ∃ b, suppressedBarrier s.lat i = some b ∧
        discardNext s = judgeStarvation (testDrain (judgeHead (discardEntry i b.rule u)))) := by
  unfold discardNext
  split
  · rename_i h; exact .inl ⟨h, rfl⟩
  · rename_i i rest h
    refine .inr ⟨i, rest, _, h, rfl, ?_⟩
    dsimp only
    split
    · rename_i b hb; exact .inr ⟨b, hb, rfl⟩
    · rename_i hb; exact .inl ⟨hb, rfl⟩

/-- The response of the oldest completed context, or nothing more than the end of its turn (R84). -/
theorem sendReadResponse_cases (s : State) : (s.rdp.ready = [] ∧ sendReadResponse s = s) ∨
    ∃ c rest u, s.rdp.ready = c :: rest ∧ u = { s with rdp := { s.rdp with ready := rest } } ∧
      ((s.rdp.contexts.get c = none ∧ sendReadResponse s = u) ∨
       ∃ x, s.rdp.contexts.get c = some x ∧
        sendReadResponse s = judgeStarvation (testDrain (judgeHead (answerContext c x u)))) := by
  unfold sendReadResponse
  split
  · rename_i h; exact .inl ⟨h, rfl⟩
  · rename_i c rest h
    refine .inr ⟨c, rest, _, h, rfl, ?_⟩
    dsimp only
    split
    · rename_i x hx; exact .inr ⟨x, hx, rfl⟩
    · rename_i hx; exact .inl ⟨hx, rfl⟩

/-- The response of the next released SYNC, or nothing more than the end of its turn (R65). -/
theorem sendSyncResponse_cases (s : State) : (s.ord.syncReady = [] ∧ sendSyncResponse s = s) ∨
    ∃ r rest u, s.ord.syncReady = r :: rest ∧ u = { s with ord := { s.ord with syncReady := rest } } ∧
      ((s.ord.sync.get r = none ∧ sendSyncResponse s = u) ∨
       ∃ x, s.ord.sync.get r = some x ∧ sendSyncResponse s = testDrain (answerSync r x u)) := by
  unfold sendSyncResponse
  split
  · rename_i h; exact .inl ⟨h, rfl⟩
  · rename_i r rest h
    refine .inr ⟨r, rest, _, h, rfl, ?_⟩
    dsimp only
    split
    · rename_i x hx; exact .inr ⟨x, hx, rfl⟩
    · rename_i hx; exact .inl ⟨hx, rfl⟩

/-- Taking a request leaves the others waiting as they are, until it leaves the Intake Queue. -/
theorem takeServed_queues {q : Request} {s t : State} (h : takeServed q s = some t) :
    t.rqp.intake = s.rqp.intake ∧ t.rqp.link = s.rqp.link := by
  obtain ⟨-, c, -, rfl⟩ | ⟨-, -, ⟨-, w, -, rfl⟩ | ⟨-, rfl⟩⟩ | ⟨-, rfl⟩ := takeServed_cases h
  · unfold takeRead; simp
  · unfold takeAoc; simp [openWrt]
  · simp
  · unfold takeSync
    split <;> simp

theorem takeHead_intakeLaw {s : State} (hs : IntakeLaw s) (q : Request) : IntakeLaw (takeHead q s) := by
  obtain ⟨-, h⟩ | ⟨-, h⟩ | ⟨status, cause, -, h⟩ | ⟨-, -, h⟩ | ⟨t, -, ht, h⟩ := takeHead_cases q s
  · rw [h]; exact hs
  · rw [h]; exact leaveIntake_intakeLaw hs
  · rw [h]; exact leaveIntake_intakeLaw hs
  · rw [h]; exact hs.of_intake (by simp)
  · rw [h]
    refine leaveIntake_intakeLaw (hs.of_intake ?_)
    simpa using (takeServed_queues ht).1

theorem intakeLaw_kept : KeptByActs IntakeLaw where
  noAct _ _ _ _ _ _ hs := hs
  powerOn held s := Nat.zero_le _
  flushEnd s hs := hs.of_intake (by simp)
  event c act s hc hs := by
    cases c <;> cases hc
    case requestArrival q =>
      unfold arrive
      dsimp only
      have haccepted : IntakeLaw (acceptFromLink { s with rqp := { s.rqp with link := s.rqp.link ++ [q] } }) :=
        acceptFromLink_intakeLaw (by exact hs)
      split
      · exact haccepted.of_intake (by simp)
      · exact haccepted
    case take time =>
      have haccepted : IntakeLaw (acceptFromLink (atTime time s)) := acceptFromLink_intakeLaw hs
      unfold takeAt
      dsimp only
      split
      · exact haccepted
      · rename_i q _ _
        exact (takeHead_intakeLaw haccepted q).of_intake (by simp)
    case memoryResponse time r => exact hs.of_intake (receive_queues r (atTime time s)).1
    case slotDeadline slot => exact hs.of_intake (expireSlot_queues slot s).1
    case suppressionDiscard =>
      obtain ⟨-, h⟩ | ⟨i, rest, u, -, rfl, ⟨-, h⟩ | ⟨b, -, h⟩⟩ := discardNext_cases s
      · rw [h]; exact hs
      · rw [h]; exact hs
      · rw [h]
        refine hs.of_intake ?_
        simpa [discardEntry] using (endEntry_queues i (.lost (.suppressed b.rule)) (unqueue i _)).1
    case readResponse =>
      obtain ⟨-, h⟩ | ⟨c, rest, u, -, rfl, ⟨-, h⟩ | ⟨x, -, h⟩⟩ := sendReadResponse_cases s
      · rw [h]; exact hs
      · rw [h]; exact hs
      · rw [h]; exact hs.of_intake (by simp [answerContext, respondTaken])
    case syncResponse =>
      obtain ⟨-, h⟩ | ⟨r, rest, u, -, rfl, ⟨-, h⟩ | ⟨x, -, h⟩⟩ := sendSyncResponse_cases s
      · rw [h]; exact hs
      · rw [h]; exact hs
      · rw [h]; exact hs.of_intake (by simp [answerSync, respondTaken])
    all_goals exact hs.of_intake (by simp)
  frame c act s hc hs := by
    cases c <;> cases hc
    case resetBridge =>
      refine IntakeLaw.of_intake (s := clearTraffic s) (Nat.zero_le _) ?_
      change (warmReset s).rqp.intake = []
      unfold warmReset
      dsimp only
      split
      · simp [clearTraffic]
      · rfl
    all_goals exact hs.of_intake (by simp)

/-! ## The Notice Queue -/

theorem postAll_law (bodies : List NoticeBody) {u : Nu}
    (h : u.line = u.queue.any (noticeEnabled u.enables) ∧ u.queue.length ≤ Config.noticeCapacity) :
    (postAll bodies u).line = (postAll bodies u).queue.any (noticeEnabled (postAll bodies u).enables) ∧
    (postAll bodies u).queue.length ≤ Config.noticeCapacity := by
  induction bodies generalizing u with
  | nil => exact h
  | cons body rest ih => exact ih (postToNu_law body h)

theorem NoticeLaw.posted {kinds : List Nat} {s t : State} (hs : NoticeLaw s) (h : Posted kinds s.nu t.nu) :
    NoticeLaw t := by
  obtain ⟨bodies, counters, -, hnu⟩ := h
  unfold NoticeLaw
  rw [hnu]
  exact postAll_law bodies hs

/-- The kinds of the eleven notices. -/
def allKinds : List Nat := [0, 1, 2, 3, 4, 5, 6, 7, 8, 9, 10]

/-- Every event but the end of a whole TAKE_NOTICE frame posts notices and counts, and does nothing else to the Notice Unit. -/
theorem eventAct_posted {c : Instr} {act : State → State} (hc : eventAct c = some act) (s : State) :
    c = .noticeRemoved ∨ Posted allKinds s.nu (act s).nu := by
  cases c <;> cases hc
  case noticeRemoved => exact .inl rfl
  case take time => exact .inr ((takeAt_posted time s).mono (by decide))
  case grant time => exact .inr ((grantOne_posted (atTime time s)).mono (by decide))
  case memoryResponse time r => exact .inr ((receive_posted r (atTime time s)).mono (by decide))
  case slotDeadline slot => exact .inr ((expireSlot_posted slot s).posted.mono (by decide))
  case pacingEnd => exact .inr ((pacingEnds_posted s).posted.mono (by decide))
  case suppressionDiscard => exact .inr ((discardNext_posted s).mono (by decide))
  case readResponse => exact .inr ((sendReadResponse_posted s).posted.mono (by decide))
  case syncResponse => exact .inr ((sendSyncResponse_posted s).posted.mono (by decide))
  case flushComplete => exact .inr ((completeFlush_posted s).posted.mono (by decide))
  all_goals exact .inr (.of_eq _ (by simp))

theorem judgeLine_law {u : Nu} (h : u.queue.length ≤ Config.noticeCapacity) :
    (judgeLine u).line = (judgeLine u).queue.any (noticeEnabled (judgeLine u).enables) ∧
    (judgeLine u).queue.length ≤ Config.noticeCapacity := ⟨rfl, h⟩

theorem noticeTaken_law {s : State} (hs : NoticeLaw s) : NoticeLaw (noticeTaken s) := by
  unfold noticeTaken
  split
  · refine judgeLine_law ?_
    have := hs.2
    simp only [List.length_tail]
    omega
  all_goals exact hs

theorem giveItem_noticeLaw {s : State} (hs : NoticeLaw s) (item : Item) (value : BitVec 32) :
    NoticeLaw (giveItem item value s) := by
  cases item
  case sweepUrgentLevel => exact hs.posted (settleSweep_posted (withUrgentLevel value s)).posted
  case noticeEnables => exact judgeLine_law hs.2
  all_goals exact hs

theorem noticeLaw_kept : KeptByActs NoticeLaw where
  noAct _ _ _ _ _ _ hs := hs
  powerOn held s := ⟨rfl, Nat.zero_le _⟩
  flushEnd s hs := hs.posted (completeFlush_posted s).posted
  event c act s hc hs := by
    obtain rfl | hposted := eventAct_posted hc s
    · cases hc
      exact noticeTaken_law hs
    · exact hs.posted hposted
  frame c act s hc hs := by
    cases c <;> cases hc
    case setItem code value =>
      unfold setItem
      split
      · split
        · exact giveItem_noticeLaw hs _ value
        · exact hs
      · exact hs
    case defineRegion => exact hs.posted (defineRegion_posted _ _ _ _ _ s).posted
    case goOnline => exact hs.posted (goOnline_posted s).posted
    case quiesce => exact hs.posted (quiesce_posted s).posted
    case resume => exact hs.posted (resume_posted s).posted
    case resetBridge => exact NoticeLaw.posted (t := warmReset s) hs (warmReset_posted s).posted
    case clearCounters => exact hs
    all_goals exact NoticeLaw.posted (kinds := []) hs (.of_eq _ (by simp))

/-- Settles O55: each of the three laws is kept by every act, hence by every step. -/
theorem listsStayOrderedAndBounded : Obligations.ListsStayOrderedAndBounded := fun _ _ h =>
  ⟨fun hs => aheadLaw_kept.step hs h, fun hs => intakeLaw_kept.step hs h, fun hs => noticeLaw_kept.step hs h⟩

end Sys2Proof.Machine
end

section
/-! Line claims (R117): what each act makes of the claims of the slots and of a READY engine's target, and the statement about
them. -/

namespace Sys2Proof.Machine

/-! ## The two parts of the law -/

theorem readyTargetFree_iff (s : State) :
    readyTargetFree s = true ↔ ∀ k line, s.rsw.engine = .ready k line → claimed s.mp line = false := by
  unfold readyTargetFree
  split
  case h_1 k line h => simp [h]
  all_goals
    rename_i h
    simp [h]

/-- Every claim of `m'` is the same slot's claim in `m`. -/
def ClaimsWithin (m m' : Mp) : Prop :=
  ∀ i line, slotClaim (m'.slots.get i) = some line → slotClaim (m.slots.get i) = some line

theorem ClaimsWithin.of_slots {m m' : Mp} (h : m'.slots = m.slots) : ClaimsWithin m m' := fun i line hc => by rwa [h] at hc

theorem ClaimsDistinct.within {m m' : Mp} (h : ClaimsDistinct m) (hw : ClaimsWithin m m') : ClaimsDistinct m' := by
  intro i j hij heq
  cases hi : slotClaim (m'.slots.get i) with
  | none => rfl
  | some line =>
    have hmi := hw i line hi
    have hmj := hw j line (heq ▸ hi)
    cases (hmi.symm.trans (h i j hij (hmi.trans hmj.symm)))

/-- A line that no slot claims is claimed by none where claims have only ended. -/
theorem claimed_within {m m' : Mp} (hw : ClaimsWithin m m') {line : Nat} (h : claimed m line = false) :
    claimed m' line = false := by
  rw [Bool.eq_false_iff, ne_eq, claimed_iff] at h ⊢
  exact fun ⟨i, hi⟩ => h ⟨i, hw i line hi⟩

theorem ClaimLaw.within {s t : State} (hs : ClaimLaw s) (hw : ClaimsWithin s.mp t.mp)
    (he : t.rsw.engine = s.rsw.engine) : ClaimLaw t := by
  refine ⟨hs.1.within hw, (readyTargetFree_iff t).2 fun k line h => ?_⟩
  exact claimed_within hw ((readyTargetFree_iff s).1 hs.2 k line (he ▸ h))

theorem ClaimLaw.of_same {s t : State} (hs : ClaimLaw s) (hmp : t.mp.slots = s.mp.slots)
    (he : t.rsw.engine = s.rsw.engine) : ClaimLaw t :=
  hs.within (.of_slots hmp) he

/-- An engine that is not READY has no target to claim. -/
theorem ClaimLaw.not_ready {t : State} (h : ClaimsDistinct t.mp) (he : ∀ k line, t.rsw.engine ≠ .ready k line) :
    ClaimLaw t := ⟨h, (readyTargetFree_iff t).2 fun k line hk => absurd hk (he k line)⟩

/-! ## The sweep's operations -/

/-- An evaluation makes the engine READY at an unclaimed line alone (R103). -/
theorem evaluate_claimLaw {s : State} (h : ClaimsDistinct s.mp) : ClaimLaw (evaluate s) := by
  have hmp : (evaluate s).mp = s.mp := by simp
  refine ⟨hmp ▸ h, (readyTargetFree_iff _).2 fun k line hready => ?_⟩
  rw [hmp]
  obtain he | ⟨k', line', he, -⟩ | ⟨k', line', he, hfree⟩ := evaluateWith_engine s.rsw.ahead.length s
  · cases he.symm.trans hready
  · cases he.symm.trans hready
  · cases he.symm.trans hready
    exact hfree

theorem ClaimLaw.settled {s : State} (hs : ClaimLaw s) : ClaimLaw (settleSweep s) := by
  have hjudged : ClaimLaw (judgeUrgency (judgeStarvation s)) := by
    unfold judgeUrgency
    split
    · split
      · exact evaluate_claimLaw hs.1
      · exact hs
    all_goals exact hs
  exact hjudged.of_same rfl rfl

theorem ClaimLaw.claimEnds {s : State} (hs : ClaimLaw s) (line : Nat) : ClaimLaw (claimEnded line s) := by
  unfold claimEnded
  split
  · split
    · exact evaluate_claimLaw hs.1
    · exact hs
  all_goals exact hs

theorem sweepGoOn_claimLaw {s : State} (h : ClaimsDistinct s.mp) : ClaimLaw (sweepGoOn s) := by
  unfold sweepGoOn
  split
  · split
    · exact evaluate_claimLaw h
    · exact .not_ready h (fun _ _ => Engine.noConfusion)
  · exact .not_ready h (fun _ _ => Engine.noConfusion)

theorem ClaimLaw.sweepEnds {s : State} (hs : ClaimLaw s) (fault : Option FaultCause) : ClaimLaw (sweepWriteEnd fault s) := by
  unfold sweepWriteEnd
  split
  · refine sweepGoOn_claimLaw (hs.1.within (.of_slots ?_))
    split <;> simp
  all_goals exact hs

theorem freeSlot_claimsWithin (slot : Fin 16) (s : State) : ClaimsWithin s.mp (freeSlot slot s).mp := by
  intro i line h
  by_cases hi : slot = i
  · subst hi
    simp [freeSlot, slotClaim] at h
  · simpa [freeSlot, Table.get_set_ne _ hi] using h

theorem ClaimLaw.frees {s : State} (hs : ClaimLaw s) (slot : Fin 16) : ClaimLaw (freeSlot slot s) :=
  hs.within (freeSlot_claimsWithin slot s) rfl

theorem ClaimLaw.entryEnds {s : State} (hs : ClaimLaw s) (i : Fin 32) (kind : EndKind) : ClaimLaw (endEntry i kind s) :=
  hs.of_same (by simp) (by simp)

theorem ClaimLaw.aheadEnds {s : State} (hs : ClaimLaw s) (i : Fin 32) (written : Bool) :
    ClaimLaw (aheadAfterWrite i written s) :=
  hs.of_same (by simp) (aheadAfterWrite_rsw i written s).2.1

theorem ClaimLaw.drainTests {s : State} (hs : ClaimLaw s) : ClaimLaw (testDrain s) := hs.of_same (by simp) (by simp)

theorem ClaimLaw.afterEnd {s : State} (hs : ClaimLaw s) : ClaimLaw (afterEntryEnd s) :=
  (hs.of_same (t := testDrain (judgeHead s)) (by simp) (by simp)).settled

/-! ## Grants -/

/-- A slot that takes up a line that no other slot claims keeps the claims distinct. -/
theorem ClaimsDistinct.engage {s : State} (h : ClaimsDistinct s.mp) {slot : Fin 16} {line : Nat} (owner : Owner)
    (request : MemoryRequest) (hother : ∀ j, j ≠ slot → slotClaim (s.mp.slots.get j) ≠ some line) :
    ClaimsDistinct (engageSlot slot owner line request s).mp := by
  intro i j hij heq
  by_cases hi : slot = i
  · subst hi
    have hj := hother j (Ne.symm hij)
    simp [engageSlot, Table.get_set_ne _ hij, slotClaim] at heq
    exact absurd heq.symm hj
  · by_cases hj : slot = j
    · subst hj
      have hi' := hother i hij
      simp [engageSlot, Table.get_set_ne _ hi, slotClaim] at heq
      exact absurd heq hi'
    · simp only [engageSlot, Table.get_set_ne _ hi, Table.get_set_ne _ hj] at heq ⊢
      exact h i j hij heq

theorem claimed_engageSlot {s : State} {slot : Fin 16} {line : Nat} {owner : Owner} {request : MemoryRequest} {target : Nat}
    (hne : target ≠ line) (h : claimed s.mp target = false) :
    claimed (engageSlot slot owner line request s).mp target = false := by
  rw [Bool.eq_false_iff, ne_eq, claimed_iff] at h ⊢
  rintro ⟨i, hi⟩
  by_cases hslot : slot = i
  · subst hslot
    simp [engageSlot, slotClaim] at hi
    exact hne hi.symm
  · exact h ⟨i, by simpa [engageSlot, Table.get_set_ne _ hslot] using hi⟩

theorem claimed_eq_false_iff (m : Mp) (line : Nat) :
    claimed m line = false ↔ ∀ i, slotClaim (m.slots.get i) ≠ some line := by
  rw [Bool.eq_false_iff, ne_eq, claimed_iff, not_exists]

/-- A grant for an unclaimed line, with the engine that was READY for it now BLOCKED (R105, R117). -/
theorem ClaimLaw.grants {s t : State} (hs : ClaimLaw s) {slot : Fin 16} {line : Nat} {owner : Owner}
    {request : MemoryRequest} (hline : claimed s.mp line = false)
    (hmp : t.mp = (engageSlot slot owner line request s).mp) (he : t.rsw.engine = s.rsw.engine) :
    ClaimLaw (claimBegan line t) := by
  have hd : ClaimsDistinct t.mp := by
    rw [hmp]
    exact hs.1.engage owner request (fun j _ => (claimed_eq_false_iff s.mp line).1 hline j)
  have hdb : ClaimsDistinct (claimBegan line t).mp := by simpa using hd
  unfold claimBegan at hdb ⊢
  split
  · rename_i k target hready
    split
    · exact .not_ready hd (fun _ _ => Engine.noConfusion)
    · rename_i hne
      refine ⟨hd, (readyTargetFree_iff t).2 fun k' line' h => ?_⟩
      cases hready.symm.trans h
      rw [hmp]
      exact claimed_engageSlot hne ((readyTargetFree_iff s).1 hs.2 k target (he ▸ hready))
  all_goals
    rename_i h
    exact .not_ready hd (fun _ _ hk => by rw [h] at hk; cases hk)

/-- The candidates of the READ class wait for unclaimed lines (R77). -/
theorem readCandidates_unclaimed {s : State} {x : Fin 16 × Nat × Span} (h : x ∈ readCandidates s) :
    claimed s.mp x.2.2.line = false := by
  obtain ⟨c, -, hx⟩ := List.mem_flatMap.1 h
  unfold waitingPieces at hx
  split at hx
  · obtain ⟨pi, hpi, rfl⟩ := List.mem_map.1 hx
    have := (List.mem_filter.1 hpi).2
    simp only [decide_eq_true_eq] at this
    exact this.2
  · cases hx

theorem resolvePiece_mp (c : Fin 16) (i : Nat) (p : Span) (s : State) : (resolvePiece c i p s).1.mp = s.mp := by
  rw [resolvePiece_only]

theorem grantRead_claimLaw {slot : Fin 16} {l : List (Fin 16 × Nat × Span)} {s : State} (hs : ClaimLaw s)
    (hl : ∀ x ∈ l, claimed s.mp x.2.2.line = false) : ClaimLaw (grantRead slot l s) := by
  induction l generalizing s with
  | nil => exact hs
  | cons x rest ih =>
    obtain ⟨c, i, p⟩ := x
    unfold grantRead
    dsimp only
    split
    · exact hs.grants (slot := slot) (owner := .readOf c i) (request := .lineRead slot p.line)
        (hl (c, i, p) (by simp)) (by simp) (by simp)
    · have hmp := resolvePiece_mp c i p s
      refine ih (hs.of_same (by rw [hmp]) (by simp)) (fun y hy => ?_)
      rw [hmp]
      exact hl y (List.mem_cons_of_mem _ hy)

theorem issueEntry_claimLaw {slot : Fin 16} {i : Fin 32} {e : Entry} {s : State} (hs : ClaimLaw s)
    (hline : claimed s.mp e.line = false) : ClaimLaw (issueEntry slot i e s) :=
  hs.grants (slot := slot) (owner := (issueRequest slot i (issuedEntry s e)).1)
    (request := (issueRequest slot i (issuedEntry s e)).2) hline rfl rfl

theorem grantSweep_claimLaw {slot : Fin 16} {s : State} (hs : ClaimLaw s) : ClaimLaw (grantSweep slot s) := by
  unfold grantSweep
  split
  · rename_i k line hready
    split
    · refine .not_ready ?_ (fun _ _ => Engine.noConfusion)
      exact hs.1.engage _ _ (fun j _ => (claimed_eq_false_iff s.mp line).1 ((readyTargetFree_iff s).1 hs.2 k line hready) j)
    · exact hs
  all_goals exact hs

theorem grantTo_claimLaw {s : State} (hs : ClaimLaw s) (slot : Fin 16) (cls : ArbiterClass) :
    ClaimLaw (grantTo slot cls s) := by
  cases cls with
  | write =>
    obtain h | ⟨i, e, hi, he, h⟩ := grantWrite_cases slot s
    · exact hs.of_same (by simp [grantTo, h]) (by simp [grantTo, h])
    · obtain ⟨hmay, -, -⟩ := firstEligible_entry hi he
      have hline : claimed s.mp e.line = false := by
        simp only [mayIssue, Bool.and_eq_true, Bool.not_eq_true'] at hmay
        exact hmay.1.2
      exact (issueEntry_claimLaw (slot := slot) (i := i) hs hline).of_same (by simp [grantTo, h]) (by simp [grantTo, h])
  | read =>
    exact (grantRead_claimLaw (slot := slot) hs (fun x hx => readCandidates_unclaimed hx)).of_same rfl rfl
  | sweep => exact (grantSweep_claimLaw (slot := slot) hs).of_same rfl rfl

/-! ## Responses and deadlines -/

/-- The fetch-to-write step keeps the claim of its slot (R33). -/
theorem fetchToWrite_claimsWithin {slot : Fin 16} {line : Nat} {s : State} (hslot : slotClaim (s.mp.slots.get slot) = some line)
    (i : Fin 32) (e : Entry) (memory : Table Byte 64) : ClaimsWithin s.mp (fetchToWrite slot i line e memory s).mp := by
  intro j l h
  by_cases hj : slot = j
  · subst hj
    simp [fetchToWrite, engageSlot, slotClaim] at h
    exact h ▸ hslot
  · simpa [fetchToWrite, engageSlot, Table.get_set_ne _ hj] using h

theorem receive_claimLaw {s : State} (hs : ClaimLaw s) (r : MemoryResponse) : ClaimLaw (receive r s) := by
  obtain ⟨i, line, deadline, hslot, h⟩ | ⟨i, line, -, -, h⟩ | ⟨c, n, line, -, -, h⟩ | ⟨line, -, -, h⟩ | ⟨purpose, line, -, h⟩ | h :=
    receive_cases r s
  · rw [h]
    cases hread : readData r with
    | none =>
      rw [fetchReturned_failed hread]
      exact (((hs.frees r.slot).entryEnds i _).claimEnds line).afterEnd
    | some data =>
      obtain ⟨counters, hcount⟩ := countCorrected_nu data.2 s
      cases he : s.lat.entries.get i with
      | none => rw [fetchReturned_free hread he, hcount]; exact hs
      | some e =>
        rw [fetchReturned_merged hread he, hcount]
        exact hs.within (fetchToWrite_claimsWithin (s := { s with nu := { s.nu with counters := counters } })
          (by rw [hslot]; rfl) i e data.1) (by simp)
  · rw [h]
    exact ((((hs.frees r.slot).aheadEnds i _).entryEnds i _).claimEnds line).afterEnd
  · rw [h, readReturned_eq]
    refine ClaimLaw.settled (ClaimLaw.drainTests ?_)
    exact ((hs.frees r.slot).of_same (t := pieceReturned c n r (freeSlot r.slot s)) (by simp) (by simp)).claimEnds line
  · rw [h]
    refine ClaimLaw.settled (ClaimLaw.drainTests ?_)
    exact ((hs.frees r.slot).sweepEnds _).claimEnds line
  · rw [h]
    refine ClaimLaw.settled (ClaimLaw.claimEnds ?_ line)
    exact ClaimLaw.frees (hs.of_same rfl rfl) r.slot
  · rw [h]
    exact hs.of_same rfl rfl

theorem ownerTimeout_claimLaw {s : State} (hs : ClaimLaw s) (owner : Owner) : ClaimLaw (ownerTimeout owner s) := by
  cases owner with
  | fetchOf i => exact hs.entryEnds i _
  | writeOf i => exact (hs.aheadEnds i false).entryEnds i _
  | readOf c n => exact hs.of_same (by simp [ownerTimeout]) (by simp [ownerTimeout])
  | sweepEngine => exact hs.sweepEnds _

/-- An ORPHANED slot keeps its claim (R125). -/
theorem orphanSlot_claimsWithin {slot : Fin 16} {owner : Owner} {line : Nat} {sent : Bool} {deadline : Nat} {s : State}
    (h : s.mp.slots.get slot = .busy owner line sent deadline) :
    ClaimsWithin s.mp (orphanSlot slot owner line sent deadline s).mp := by
  intro j l hj
  by_cases hslot : slot = j
  · subst hslot
    simp [orphanSlot, slotClaim] at hj
    rw [h, ← hj]; rfl
  · simpa [orphanSlot, Table.get_set_ne _ hslot] using hj

theorem judgeStall_slots (s : State) : (judgeStall s).mp.slots = s.mp.slots := by
  obtain h | ⟨-, -, h⟩ := judgeStall_cases s <;> rw [h]
  rfl

theorem expireSlot_claimLaw {s : State} (hs : ClaimLaw s) (slot : Fin 16) : ClaimLaw (expireSlot slot s) := by
  obtain ⟨owner, line, sent, deadline, hslot, h⟩ | h := expireSlot_cases slot s
  · have htold : ClaimLaw (toldOrphan slot owner line sent deadline s) :=
      (ownerTimeout_claimLaw (hs.within (orphanSlot_claimsWithin hslot) (by simp)) owner).of_same
        (judgeStall_slots _) (by simp [toldOrphan])
    rw [h]
    split
    · exact htold.afterEnd
    · exact htold.drainTests.settled
  · rw [h]; exact hs

/-! ## The acts -/

theorem acceptHead_claimsWithin (s : State) : ClaimsWithin s.mp (acceptHead s).mp := by
  unfold acceptHead
  split
  · exact .of_slots rfl
  · rename_i m rest _
    intro j l hj
    by_cases hslot : memoryRequestSlot m = j
    · subst hslot
      simp only [Table.get_set_self] at hj
      cases hx : s.mp.slots.get (memoryRequestSlot m) <;> rw [hx] at hj <;> exact hj
    · simpa [Table.get_set_ne _ hslot] using hj

theorem evaluateOnline_claimLaw {s : State} (hs : ClaimLaw s) : ClaimLaw (evaluateOnline s) := by
  unfold evaluateOnline
  split
  · exact hs
  all_goals exact evaluate_claimLaw hs.1

theorem comeOnline_claimLaw {s : State} (hs : ClaimLaw s) : ClaimLaw (comeOnline s) :=
  (evaluateOnline_claimLaw (hs.of_same (t := judgeHead (setMode .online s)) (by simp) (by simp))).settled

theorem engineLeaves_claimLaw {s : State} (hs : ClaimLaw s) : ClaimLaw (engineLeaves s) := by
  unfold engineLeaves
  split
  case h_1 | h_2 => exact hs
  all_goals exact .not_ready hs.1 (fun _ _ => Engine.noConfusion)

theorem quiesce_claimLaw {s : State} (hs : ClaimLaw s) : ClaimLaw (quiesce s) := by
  unfold quiesce
  split
  · split
    · unfold startDrain
      exact ClaimLaw.drainTests (engineLeaves_claimLaw (ClaimLaw.of_same hs rfl rfl))
    · exact hs.of_same rfl rfl
  · exact hs.of_same rfl rfl

theorem reclaim_claimsWithin (s : State) : ClaimsWithin s.mp (reclaim s).mp := by
  intro i line h
  simp only [reclaim, Table.get_map] at h
  split at h
  · cases h
  · exact h

theorem evaluateAfterDefine_claimLaw {s : State} (hs : ClaimLaw s) : ClaimLaw (evaluateAfterDefine s) := by
  unfold evaluateAfterDefine
  split
  · split
    case h_1 | h_2 | h_3 => exact evaluate_claimLaw hs.1
    all_goals exact hs
  · exact hs

theorem warmReset_slots (s : State) : (warmReset s).mp.slots = s.mp.slots.map slotAfterReset := by
  have hcleared : (clearTraffic (abortResponses (abortLong s))).mp.slots = s.mp.slots.map slotAfterReset := by
    have hmp : (abortLong s).mp = s.mp := by unfold abortLong; split <;> rfl
    simp [clearTraffic, abortResponses, hmp]
  unfold warmReset
  split
  · rw [judgeStall_slots, hcleared]
  · exact hcleared

theorem slotClaim_slotAfterReset (x : Slot) : slotClaim (slotAfterReset x) = slotClaim x := by
  cases x <;> rfl

theorem warmReset_claimLaw {s : State} (hs : ClaimLaw s) : ClaimLaw (warmReset s) := by
  refine .not_ready (hs.1.within fun i line h => ?_) (fun k line h => ?_)
  · rw [warmReset_slots, Table.get_map, slotClaim_slotAfterReset] at h
    exact h
  · rw [warmReset_rsw] at h
    cases h

theorem claimLaw_kept : KeptByActs ClaimLaw where
  noAct _ _ _ _ _ _ hs := hs.of_same rfl rfl
  powerOn held s := .not_ready (fun _ _ _ _ => by simp [powerOnState, State.reset, Mp.reset, slotClaim])
    (fun _ _ => Engine.noConfusion)
  flushEnd s hs := hs.of_same (by simp) (by simp)
  event c act s hc hs := by
    cases c <;> cases hc
    case grant time =>
      dsimp only
      have hs' : ClaimLaw (atTime time s) := hs
      obtain h | ⟨slot, cls, -, -, h⟩ := grantOne_cases (atTime time s)
      · rw [h]; exact hs'
      · rw [h]; exact (grantTo_claimLaw hs' slot cls).settled
    case memoryLinkAccept => exact hs.within (acceptHead_claimsWithin s) (by simp)
    case memoryResponse time r => exact receive_claimLaw (s := atTime time s) hs r
    case slotDeadline slot => exact expireSlot_claimLaw hs slot
    case pacingEnd =>
      unfold pacingEnds
      split
      · exact (evaluate_claimLaw (s := atTime _ s) hs.1).settled
      all_goals exact hs
    all_goals exact hs.of_same (by simp) (by simp)
  frame c act s hc hs := by
    cases c <;> cases hc
    case setItem code value =>
      unfold setItem
      split
      · rename_i item _
        split
        · refine ClaimLaw.of_same (s := giveItem item value s) ?_ rfl rfl
          cases item
          case sweepUrgentLevel => exact ClaimLaw.settled (s := withUrgentLevel value s) hs
          all_goals exact hs
        · exact hs
      · exact hs
    case defineRegion index base size mode pattern =>
      obtain h | ⟨k, sweep, -, -, -, -, put, rfl, h⟩ := defineRegion_cases index base size mode pattern s
      · rw [h]; exact hs
      · rw [h]
        cases sweep
        · exact hs
        · exact (evaluateAfterDefine_claimLaw (s := putRegion k _ s) hs).settled
    case retireRegion index =>
      refine hs.of_same (by simp) ?_
      obtain ⟨status, h⟩ | ⟨k, -, -, h⟩ := retireRegion_cases index s
      · rw [h]; rfl
      · rw [h]
        unfold removeRegion
        split <;> rfl
    case goOnline =>
      unfold goOnline
      split
      · exact comeOnline_claimLaw (s := answer .done s) hs
      · exact hs
    case quiesce => exact quiesce_claimLaw hs
    case resume =>
      unfold resume
      split
      · exact comeOnline_claimLaw (hs.of_same (t := abandonDrain (answer .done s)) (by simp) (by simp))
      · exact hs
    case resetBridge => exact warmReset_claimLaw hs
    case reclaimSlots =>
      unfold reclaimSlots
      split
      · exact hs
      · exact hs.within (t := reclaim s) (reclaim_claimsWithin s) rfl
    all_goals exact hs.of_same (by simp) (by simp)

/-- Settles O48: a slot takes up an unclaimed line or keeps its own, and an evaluation makes the engine READY at an unclaimed line
alone. -/
theorem lineClaimsStayDistinct : Obligations.LineClaimsStayDistinct := fun _ _ hs h => claimLaw_kept.step hs h

end Sys2Proof.Machine
end

section
/-! What the operations of the Line Assembly Table leave of it, said once for the closes, the pieces of a WRITE, the takes and the end
of an entry: a rule over tables that every single operation obeys holds of all of them. -/

namespace Sys2Proof.Machine

/-! ## The pieces of a WRITE -/

/-- The table with an entry at an index, closed for MASK_FULL when its byte set is full (R13). -/
def placedLat (i : Fin 32) (e : Entry) (l : Lat) : Lat :=
  if cellsFull e.cells then closeIn .maskFull i { l with entries := l.entries.set i (some e) }
  else { l with entries := l.entries.set i (some e) }

theorem closeIfFull_putEntry_lat (i : Fin 32) (e : Entry) (s : State) :
    (closeIfFull i e (putEntry i e s)).lat = placedLat i e s.lat := by
  unfold closeIfFull placedLat
  split <;> rfl

theorem mergePiece_lat {q : Request} {w : Option (Fin 16)} {p : Span} {i : Fin 32} {s : State} {e : Entry}
    (he : s.lat.entries.get i = some e) : (mergePiece q w p i s).lat = placedLat i (mergedEntry s q w p e) s.lat := by
  simp only [mergePiece, he]
  exact closeIfFull_putEntry_lat i _ (countOne .merges s)

theorem openPiece_lat {q : Request} {w : Option (Fin 16)} {p : Span} {i : Fin 32} {s : State}
    (hi : lowestFreeEntry s.lat = some i) : (openPiece q w p s).lat = placedLat i (openedEntry s q w p) s.lat := by
  simp only [openPiece, hi]
  exact closeIfFull_putEntry_lat i _ s

/-- A merge target is a GATHERING entry of the line, with room in its held list where the write is AOC (R4). -/
theorem mergeTarget_some {l : Lat} {aoc : Bool} {p : Span} {i : Fin 32} (h : mergeTarget l aoc p = some i) :
    gatheringOf l p.line = some i ∧ ∃ e, l.entries.get i = some e ∧ e.state = .gathering ∧ e.line = p.line ∧
      (aoc = true → e.held.length < Config.heldCapacity) := by
  unfold mergeTarget at h
  split at h
  · rename_i j hj
    split at h
    · rename_i hroom
      cases h
      obtain ⟨e, he, hg, hline⟩ := gatheringOf_some hj
      refine ⟨hj, e, he, hg, hline, fun haoc => ?_⟩
      simpa [haoc, he, entryIs] using hroom
    · cases h
  · cases h

/-- What becomes of the table when a piece is placed: it merges into its target, opens the lowest FREE entry, or finds none. -/
theorem placePiece_lat_cases (q : Request) (w : Option (Fin 16)) (s : State) (p : Span) :
    (∃ i e, mergeTarget s.lat q.aoc p = some i ∧ s.lat.entries.get i = some e ∧
      (placePiece q w s p).lat = placedLat i (mergedEntry s q w p e) s.lat) ∨
    (∃ i, mergeTarget s.lat q.aoc p = none ∧ lowestFreeEntry s.lat = some i ∧
      (placePiece q w s p).lat = placedLat i (openedEntry s q w p) s.lat) ∨
    (mergeTarget s.lat q.aoc p = none ∧ lowestFreeEntry s.lat = none ∧ placePiece q w s p = s) := by
  unfold placePiece
  split
  · rename_i i hi
    obtain ⟨-, e, he, -⟩ := mergeTarget_some hi
    exact .inl ⟨i, e, hi, he, mergePiece_lat he⟩
  · rename_i hnone
    cases hi : lowestFreeEntry s.lat with
    | some i => exact .inr (.inl ⟨i, hnone, rfl, openPiece_lat hi⟩)
    | none => exact .inr (.inr ⟨hnone, rfl, by simp [openPiece, hi]⟩)

/-! ## A rule over tables -/

/-- A rule between a table and a later one that closes obey, one after another. -/
structure ClosesObey (R : Lat → Lat → Prop) : Prop where
  refl : ∀ l, R l l
  trans : ∀ l m n, R l m → R m n → R l n
  close : ∀ cause i l, R l (closeIn cause i l)

namespace ClosesObey

variable {R : Lat → Lat → Prop}

theorem closeEach (hR : ClosesObey R) (cause : CloseCause) (list : List (Fin 32)) (l : Lat) :
    R l (closeEach cause list l) := by
  induction list generalizing l with
  | nil => exact hR.refl l
  | cons i rest ih => exact hR.trans _ _ _ (hR.close cause i l) (ih (closeIn cause i l))

theorem closeWhere (hR : ClosesObey R) (cause : CloseCause) (p : Entry → Bool) (s : State) :
    R s.lat (closeWhere cause p s).lat := hR.closeEach cause _ s.lat

theorem evictFor (hR : ClosesObey R) (q : Request) (s : State) : R s.lat (evictFor q s).lat := by
  unfold Machine.evictFor
  split
  · split
    · exact hR.close _ _ _
    · exact hR.refl _
  · exact hR.refl _

theorem resourceCloses (hR : ClosesObey R) (q : Request) (s : State) : R s.lat (resourceCloses q s).lat :=
  hR.trans _ _ _ (hR.closeEach .heldLimit (heldLimitEntries s q) s.lat)
    (hR.evictFor q { s with lat := Machine.closeEach .heldLimit (heldLimitEntries s q) s.lat })

theorem closedFor (hR : ClosesObey R) (q : Request) (s : State) : R s.lat (closedFor q s).lat := by
  unfold Machine.closedFor
  split
  · exact hR.resourceCloses q s
  · exact hR.refl _

theorem judgeHead (hR : ClosesObey R) (s : State) : R s.lat (judgeHead s).lat := by
  obtain h | ⟨q, rest, -, -, -, h⟩ := judgeHead_cases s
  · rw [h]; exact hR.refl _
  · rw [h]; exact hR.resourceCloses q s

theorem leaveIntake (hR : ClosesObey R) (s : State) : R s.lat (leaveIntake s).lat :=
  hR.judgeHead (acceptFromLink { s with rqp := { s.rqp with intake := s.rqp.intake.tail } })

theorem afterEntryEnd (hR : ClosesObey R) (s : State) : R s.lat (afterEntryEnd s).lat := by
  have h := hR.judgeHead s
  simpa [Machine.afterEntryEnd] using h

theorem releaseOwnLines (hR : ClosesObey R) (q : Request) (s : State) : R s.lat (releaseOwnLines q s).lat := by
  unfold Machine.releaseOwnLines
  induction requestSpans q generalizing s with
  | nil => exact hR.refl _
  | cons p rest ih =>
    refine hR.trans _ _ _ ?_ (ih _)
    dsimp only
    split
    · exact hR.close _ _ _
    · exact hR.refl _

theorem arrive (hR : ClosesObey R) (q : Request) (s : State) : R s.lat (arrive q s).lat := by
  unfold Machine.arrive
  dsimp only
  split
  · exact hR.judgeHead (acceptFromLink { s with rqp := { s.rqp with link := s.rqp.link ++ [q] } })
  · exact hR.refl _

end ClosesObey

/-- A rule between a table and a later one that every operation of a take obeys. -/
structure TakesObey (R : Lat → Lat → Prop) : Prop extends ClosesObey R where
  /-- A merge into a GATHERING entry, whose byte set is not full yet after it or closes it (R7). -/
  merge : ∀ l i e cells contributors held deadline lastMerge, l.entries.get i = some e → e.state = .gathering →
    R l (placedLat i
      { e with cells := cells, contributors := contributors, held := held, deadline := deadline, lastMerge := lastMerge } l)
  /-- An entry opened as GATHERING at a FREE index (R6). -/
  opened : ∀ l i e, l.entries.get i = none → e.state = .gathering → R l (placedLat i e l)
  /-- An entry opened in CLOSED at a FREE index, at the tail of the Issue Queue (R18). -/
  release : ∀ l i e, l.entries.get i = none → e.state = .closed →
    R l { l with entries := l.entries.set i (some e), issueQueue := l.issueQueue ++ [i] }

namespace TakesObey

variable {R : Lat → Lat → Prop}

theorem placePiece (hR : TakesObey R) (q : Request) (w : Option (Fin 16)) (s : State) (p : Span) :
    R s.lat (placePiece q w s p).lat := by
  obtain ⟨i, e, hi, he, h⟩ | ⟨i, -, hi, h⟩ | ⟨-, -, h⟩ := placePiece_lat_cases q w s p
  · obtain ⟨-, x, hx, hg, -⟩ := mergeTarget_some hi
    cases he.symm.trans hx
    rw [h]
    exact hR.merge s.lat i e _ _ _ _ _ he hg
  · rw [h]
    exact hR.opened s.lat i _ (lowestFreeEntry_some hi) rfl
  · rw [h]
    exact hR.refl _

theorem placeAll (hR : TakesObey R) (q : Request) (w : Option (Fin 16)) (spans : List Span) (s : State) :
    R s.lat (spans.foldl (Machine.placePiece q w) s).lat := by
  induction spans generalizing s with
  | nil => exact hR.refl _
  | cons p rest ih => exact hR.trans _ _ _ (hR.placePiece q w s p) (ih _)

theorem openRelease (hR : TakesObey R) (q : Request) (w : Option (Fin 16)) (b : Barrier) (s : State) (p : Span) :
    R s.lat (openRelease q w b s p).lat := by
  unfold Machine.openRelease
  split
  · rename_i i hi
    exact hR.release s.lat i _ (lowestFreeEntry_some hi) rfl
  · exact hR.refl _

theorem openReleaseAll (hR : TakesObey R) (q : Request) (w : Option (Fin 16)) (b : Barrier) (spans : List Span) (s : State) :
    R s.lat (spans.foldl (Machine.openRelease q w b) s).lat := by
  induction spans generalizing s with
  | nil => exact hR.refl _
  | cons p rest ih => exact hR.trans _ _ _ (hR.openRelease q w b s p) (ih _)

theorem releaseTake (hR : TakesObey R) (q : Request) (w : Option (Fin 16)) (k : Fin 8) (r : ReleaseRule) (s : State) :
    R s.lat (releaseTake q w k r s).lat := by
  have hown := hR.releaseOwnLines q s
  have hscope := hR.closeWhere .release (inScope r.scope q.requester) (Machine.releaseOwnLines q s)
  refine hR.trans _ _ _ (hR.trans _ _ _ hown hscope) ?_
  unfold Machine.releaseTake
  dsimp only
  split
  · exact hR.openReleaseAll q w _ _ _
  · exact hR.openReleaseAll q w _ _ _

theorem placeWrite (hR : TakesObey R) (q : Request) (w : Option (Fin 16)) (s : State) : R s.lat (placeWrite q w s).lat := by
  unfold Machine.placeWrite
  split
  · split
    · exact hR.releaseTake q w _ _ s
    · exact hR.refl _
  · exact hR.placeAll q w _ s

theorem takeServed (hR : TakesObey R) {q : Request} {s t : State} (h : takeServed q s = some t) : R s.lat t.lat := by
  obtain ⟨-, c, -, rfl⟩ | ⟨-, -, ⟨-, w, -, rfl⟩ | ⟨-, rfl⟩⟩ | ⟨-, rfl⟩ := takeServed_cases h
  · simp [hR.refl]
  · exact hR.placeWrite q (some w) (holdTag q.requester q.tag (openWrt q w s))
  · exact hR.placeWrite q none s
  · unfold takeSync
    split
    · exact hR.refl _
    · exact hR.closeWhere .sync _ (holdTag q.requester q.tag s)

theorem takeHead (hR : TakesObey R) (q : Request) (s : State) : R s.lat (takeHead q s).lat := by
  obtain ⟨-, h⟩ | ⟨-, h⟩ | ⟨status, cause, -, h⟩ | ⟨-, -, h⟩ | ⟨t, -, ht, h⟩ := takeHead_cases q s
  · rw [h]; exact hR.refl _
  · rw [h]; exact hR.leaveIntake (respond q.requester q.tag .offline [] s)
  · rw [h]; exact hR.leaveIntake (takeRefused q status cause s)
  · rw [h]; exact hR.closedFor q s
  · rw [h]; exact hR.trans _ _ _ (hR.trans _ _ _ (hR.closedFor q s) (hR.takeServed ht)) (hR.leaveIntake t)

theorem takeAt (hR : TakesObey R) (time : Nat) (s : State) : R s.lat (takeAt time s).lat := by
  unfold Machine.takeAt
  dsimp only
  split
  · exact hR.refl _
  · exact hR.takeHead _ (acceptFromLink (atTime time s))

end TakesObey

end Sys2Proof.Machine
end

section
/-! The Issue Queue and the owners of slots (R19): what each act makes of them, and the statement about them. -/

namespace Sys2Proof.Machine

/-! ## The law of the table and the slots -/

/-- The part of the law of the Issue Queue that does not speak of claims. -/
structure OwnersQueued (l : Lat) (m : Mp) : Prop where
  owners : ∀ j, ownerHeld l (m.slots.get j) = true
  exact : IssueQueueExact l

theorem issueLaw_iff (s : State) : IssueLaw s ↔ ClaimLaw s ∧ OwnersQueued s.lat s.mp :=
  ⟨fun ⟨hc, ho, hq⟩ => ⟨hc, ho, hq⟩, fun ⟨hc, ho, hq⟩ => ⟨hc, ho, hq⟩⟩

/-- The entry that owns a BUSY slot. -/
def slotEntry : Slot → Option (Fin 32)
  | .busy (.fetchOf i) _ _ _ => some i
  | .busy (.writeOf i) _ _ _ => some i
  | _ => none

theorem ownerHeld_of_no_entry {l : Lat} {x : Slot} (h : slotEntry x = none) : ownerHeld l x = true := by
  unfold slotEntry at h
  split at h
  · cases h
  · cases h
  · unfold ownerHeld
    split
    case h_1 hf _ => exact absurd rfl (hf _ _ _ _)
    case h_2 _ hw => exact absurd rfl (hw _ _ _ _)
    all_goals rfl

/-- An entry that owns a slot is FETCHING or WRITING on the slot's line. -/
theorem ownerHeld_entry {l : Lat} {x : Slot} {i : Fin 32} (h : ownerHeld l x = true) (hi : slotEntry x = some i) :
    ∃ e, l.entries.get i = some e ∧ (e.state = .fetching ∨ e.state = .writing) ∧ slotClaim x = some e.line := by
  unfold slotEntry at hi
  split at hi
  · cases hi
    obtain ⟨e, he, hp⟩ := entryIs_iff.1 h
    simp only [Bool.and_eq_true, beq_iff_eq] at hp
    exact ⟨e, he, .inl hp.1, congrArg some hp.2.symm⟩
  · cases hi
    obtain ⟨e, he, hp⟩ := entryIs_iff.1 h
    simp only [Bool.and_eq_true, beq_iff_eq] at hp
    exact ⟨e, he, .inr hp.1, congrArg some hp.2.symm⟩
  · cases hi

/-- An entry that keeps its state and its line keeps the slot it owns. -/
theorem ownerHeld_of_kept {l l' : Lat} {x : Slot} (h : ownerHeld l x = true)
    (hk : ∀ i e, slotEntry x = some i → l.entries.get i = some e →
      ∃ e', l'.entries.get i = some e' ∧ e'.state = e.state ∧ e'.line = e.line) : ownerHeld l' x = true := by
  unfold ownerHeld at h ⊢
  split
  · obtain ⟨e, he, hp⟩ := entryIs_iff.1 h
    obtain ⟨e', he', hstate, hline⟩ := hk _ e rfl he
    exact entryIs_iff.2 ⟨e', he', by rw [hstate, hline]; exact hp⟩
  · obtain ⟨e, he, hp⟩ := entryIs_iff.1 h
    obtain ⟨e', he', hstate, hline⟩ := hk _ e rfl he
    exact entryIs_iff.2 ⟨e', he', by rw [hstate, hline]; exact hp⟩
  all_goals rfl

/-! ## Operations of the table -/

/-- A later table keeps every entry that may own a slot, and an exact Issue Queue. -/
structure Requeued (l l' : Lat) : Prop where
  issued : ∀ i e, l.entries.get i = some e → e.state = .fetching ∨ e.state = .writing →
    ∃ e', l'.entries.get i = some e' ∧ e'.state = e.state ∧ e'.line = e.line
  exact : IssueQueueExact l → IssueQueueExact l'

theorem Requeued.owners {l l' : Lat} (h : Requeued l l') {x : Slot} (hx : ownerHeld l x = true) :
    ownerHeld l' x = true := by
  refine ownerHeld_of_kept hx fun i e hi he => ?_
  obtain ⟨e₀, he₀, hstate, -⟩ := ownerHeld_entry hx hi
  cases he.symm.trans he₀
  exact h.issued i e he hstate

theorem OwnersQueued.requeue {l l' : Lat} {m : Mp} (h : OwnersQueued l m) (hr : Requeued l l') : OwnersQueued l' m :=
  ⟨fun j => hr.owners (h.owners j), hr.exact h.exact⟩

theorem OwnersQueued.of_slots {l : Lat} {m m' : Mp} (h : OwnersQueued l m) (hm : m'.slots = m.slots) : OwnersQueued l m' :=
  ⟨fun j => by rw [hm]; exact h.owners j, h.exact⟩

/-- An index joins the tail of the Issue Queue as its entry becomes CLOSED. -/
theorem IssueQueueExact.joins {l : Lat} {i : Fin 32} {e : Entry} {mark : Option (Fin 32)} (h : IssueQueueExact l)
    (hold : entryIs isClosed (l.entries.get i) = false) (hnew : e.state = .closed) :
    IssueQueueExact { entries := l.entries.set i (some e), issueQueue := l.issueQueue ++ [i], evictMark := mark } := by
  have hi : i ∉ l.issueQueue := fun hmem => by
    have := (h.2 i).1 hmem
    rw [hold] at this
    cases this
  refine ⟨?_, fun j => ?_⟩
  · simpa [List.nodup_append, h.1] using fun j hj (hji : j = i) => hi (hji ▸ hj)
  · by_cases hij : i = j
    · subst hij
      simp [entryIs, isClosed, hnew]
    · simp [Table.get_set_ne _ hij, h.2 j, Ne.symm hij]

/-- An entry that is not CLOSED, before and after, has no place in the Issue Queue. -/
theorem IssueQueueExact.puts {l : Lat} {i : Fin 32} {e : Entry} (h : IssueQueueExact l)
    (hold : entryIs isClosed (l.entries.get i) = false) (hnew : e.state ≠ .closed) :
    IssueQueueExact { l with entries := l.entries.set i (some e) } := by
  refine ⟨h.1, fun j => ?_⟩
  by_cases hij : i = j
  · subst hij
    rw [h.2 i, hold]
    simpa [entryIs, isClosed] using hnew
  · simpa [Table.get_set_ne _ hij] using h.2 j

/-- Entries at other indices than one that owns no slot are kept. -/
theorem issued_set {l : Lat} {i : Fin 32} {x : Option Entry} {entries : Table (Option Entry) 32}
    (hentries : entries = l.entries.set i x)
    (hold : ∀ e, l.entries.get i = some e → e.state ≠ .fetching ∧ e.state ≠ .writing) (j : Fin 32) (e : Entry)
    (he : l.entries.get j = some e) (hstate : e.state = .fetching ∨ e.state = .writing) :
    ∃ e', entries.get j = some e' ∧ e'.state = e.state ∧ e'.line = e.line := by
  by_cases hij : i = j
  · subst hij
    obtain ⟨hf, hw⟩ := hold e he
    exact absurd hstate (by simp [hf, hw])
  · exact ⟨e, by rw [hentries, Table.get_set_ne _ hij, he], rfl, rfl⟩

theorem entryIs_isClosed_of_state {e : Entry} (h : e.state ≠ .closed) : entryIs isClosed (some e) = false := by
  simpa [entryIs, isClosed] using h

theorem closeIn_requeued (cause : CloseCause) (i : Fin 32) (l : Lat) : Requeued l (closeIn cause i l) := by
  obtain h | ⟨e, he, hg, h⟩ := closeIn_cases cause i l
  · rw [h]; exact ⟨fun j e he _ => ⟨e, he, rfl, rfl⟩, id⟩
  · rw [h]
    refine ⟨issued_set rfl (fun x hx => ?_), fun hexact => hexact.joins ?_ rfl⟩
    · cases he.symm.trans hx
      simp [hg]
    · rw [he]; exact entryIs_isClosed_of_state (by simp [hg])

theorem Requeued.trans {l m n : Lat} (h : Requeued l m) (h' : Requeued m n) : Requeued l n := by
  refine ⟨fun i e he hstate => ?_, fun hexact => h'.exact (h.exact hexact)⟩
  obtain ⟨x, hx, hxs, hxl⟩ := h.issued i e he hstate
  obtain ⟨y, hy, hys, hyl⟩ := h'.issued i x hx (by rwa [hxs])
  exact ⟨y, hy, hys.trans hxs, hyl.trans hxl⟩

/-- A GATHERING entry put where none or a GATHERING one stood, closed when it is full. -/
theorem placedLat_requeued {l : Lat} {i : Fin 32} {e : Entry} (he : e.state = .gathering)
    (hold : ∀ x, l.entries.get i = some x → x.state = .gathering) : Requeued l (placedLat i e l) := by
  have hput : Requeued l { l with entries := l.entries.set i (some e) } := by
    refine ⟨issued_set rfl (fun x hx => by simp [hold x hx]), fun hexact => hexact.puts ?_ (by simp [he])⟩
    cases hx : l.entries.get i with
    | none => rfl
    | some x => exact entryIs_isClosed_of_state (by simp [hold x hx])
  unfold placedLat
  split
  · exact hput.trans (closeIn_requeued .maskFull i _)
  · exact hput

/-- Every operation of a take keeps the owners and the exact queue. -/
theorem requeued_takes : TakesObey Requeued where
  refl _ := ⟨fun _ e he _ => ⟨e, he, rfl, rfl⟩, id⟩
  trans _ _ _ := Requeued.trans
  close := closeIn_requeued
  merge l i e cells contributors held deadline lastMerge he hg := placedLat_requeued hg (fun x hx => by
    cases he.symm.trans hx
    exact hg)
  opened l i e hfree he := placedLat_requeued he (fun x hx => by
    rw [hfree] at hx
    cases hx)
  release l i e hfree he := by
    refine ⟨issued_set rfl (fun x hx => ?_), fun hexact => hexact.joins (by rw [hfree]; rfl) he⟩
    rw [hfree] at hx
    cases hx

/-! ## The end of an entry -/

/-- The entry at index `i` of the table, with the queue as it stands, can end: no slot is its own, and the Issue Queue holds exactly
the other CLOSED entries. -/
structure CanEnd (i : Fin 32) (l : Lat) (m : Mp) : Prop where
  owners : ∀ j, ownerHeld l (m.slots.get j) = true
  unowned : ∀ j, slotEntry (m.slots.get j) ≠ some i
  nodup : l.issueQueue.Nodup
  queue : ∀ j, j ∈ l.issueQueue ↔ j ≠ i ∧ entryIs isClosed (l.entries.get j) = true

theorem endEntry_ownersQueued {i : Fin 32} (kind : EndKind) {s : State} (h : CanEnd i s.lat s.mp) {e : Entry}
    (he : s.lat.entries.get i = some e) : OwnersQueued (endEntry i kind s).lat s.mp := by
  rw [endEntry_lat kind he]
  refine ⟨fun j => ownerHeld_of_kept (h.owners j) fun k x hk hx => ?_, h.nodup, fun j => ?_⟩
  · have hki : i ≠ k := fun hik => h.unowned j (hik ▸ hk)
    exact ⟨{ x with barrier := x.barrier.map (barrierWithout i (endFailed kind)) },
      by rw [Table.get_set_ne _ hki, Table.get_map, hx]; rfl, rfl, rfl⟩
  · rw [h.queue j]
    by_cases hij : i = j
    · subst hij
      simp [entryIs]
    · simp only [Table.get_set_ne _ hij, Table.get_map, ne_eq, Ne.symm hij, not_false_iff, true_and]
      cases s.lat.entries.get j <;> rfl

/-- The entry whose slot comes free, or ORPHANED, can end: by the claim law no other slot is its own. -/
theorem canEnd_of_owner {l : Lat} {m m' : Mp} {slot : Fin 16} {i : Fin 32} (hclaims : ClaimsDistinct m)
    (hlaw : OwnersQueued l m) (hslot : slotEntry (m.slots.get slot) = some i)
    (hnow : slotEntry (m'.slots.get slot) = none) (hother : ∀ j, j ≠ slot → m'.slots.get j = m.slots.get j) :
    CanEnd i l m' ∧ ∃ e, l.entries.get i = some e := by
  obtain ⟨e, he, hstate, hclaim⟩ := ownerHeld_entry (hlaw.owners slot) hslot
  have hopen : entryIs isClosed (l.entries.get i) = false := by
    rw [he]
    refine entryIs_isClosed_of_state fun hc => ?_
    rw [hc] at hstate
    obtain h | h := hstate <;> cases h
  refine ⟨⟨fun j => ?_, fun j hj => ?_, hlaw.exact.1, fun j => ?_⟩, e, he⟩
  · by_cases hj : j = slot
    · subst hj; exact ownerHeld_of_no_entry hnow
    · rw [hother j hj]; exact hlaw.owners j
  · by_cases hjs : j = slot
    · subst hjs
      rw [hnow] at hj
      cases hj
    · rw [hother j hjs] at hj
      obtain ⟨e', he', -, hclaim'⟩ := ownerHeld_entry (hlaw.owners j) hj
      cases he.symm.trans he'
      have := hclaims j slot hjs (hclaim'.trans hclaim.symm)
      rw [hclaim'] at this
      cases this
  · rw [hlaw.exact.2 j]
    refine ⟨fun hj => ⟨fun hji => ?_, hj⟩, fun hj => hj.2⟩
    rw [hji, hopen] at hj
    cases hj

/-! ## Slots -/

/-- No slot of `m'` has an owner that the same slot of `m` lacks. -/
def OwnersWithin (m m' : Mp) : Prop := ∀ j, slotEntry (m'.slots.get j) = none ∨ ∀ l, ownerHeld l (m.slots.get j) = true →
  ownerHeld l (m'.slots.get j) = true

theorem OwnersQueued.within {l : Lat} {m m' : Mp} (h : OwnersQueued l m) (hw : OwnersWithin m m') : OwnersQueued l m' := by
  refine ⟨fun j => ?_, h.exact⟩
  obtain hnone | hkept := hw j
  · exact ownerHeld_of_no_entry hnone
  · exact hkept l (h.owners j)

/-- A slot that is written with no entry as owner leaves the other slots their owners. -/
theorem ownersWithin_set {m m' : Mp} {slot : Fin 16} {x : Slot} (hm : m'.slots = m.slots.set slot x)
    (hx : slotEntry x = none) : OwnersWithin m m' := by
  intro j
  rw [hm]
  by_cases hj : slot = j
  · subst hj; exact .inl (by simpa using hx)
  · exact .inr fun l hl => by simpa [Table.get_set_ne _ hj] using hl

theorem acceptHead_ownersWithin (s : State) : OwnersWithin s.mp (acceptHead s).mp := by
  unfold acceptHead
  split
  · exact fun j => .inr fun l hl => hl
  · rename_i m rest _
    intro j
    refine .inr fun l hl => ?_
    by_cases hslot : memoryRequestSlot m = j
    · subst hslot
      simp only [Table.get_set_self]
      cases hx : s.mp.slots.get (memoryRequestSlot m) with
      | free => rfl
      | busy owner line sent deadline =>
        rw [hx] at hl
        cases owner <;> exact hl
      | orphaned purpose line sent => rfl
    · simpa [Table.get_set_ne _ hslot] using hl

/-! ## Grants -/

theorem issuedEntry_state (s : State) (e : Entry) :
    ((issuedEntry s e).state = .fetching ∨ (issuedEntry s e).state = .writing) ∧ (issuedEntry s e).line = e.line := by
  unfold issuedEntry
  split
  · exact ⟨.inr rfl, rfl⟩
  · exact ⟨.inl rfl, rfl⟩
  · exact ⟨.inr rfl, rfl⟩

/-- An issued entry is the owner that its slot's purpose asks for (R28). -/
theorem issueRequest_owner (slot : Fin 16) (i : Fin 32) (e : Entry) :
    (issueRequest slot i e).1 = if e.state = .fetching then .fetchOf i else .writeOf i := by
  unfold issueRequest
  cases e.state <;> rfl

theorem ownerHeld_issued {l : Lat} {slot : Fin 16} {i : Fin 32} {e : Entry} {line deadline : Nat} {sent : Bool}
    (he : l.entries.get i = some e) (hstate : e.state = .fetching ∨ e.state = .writing) (hline : e.line = line) :
    ownerHeld l (.busy (issueRequest slot i e).1 line sent deadline) = true := by
  rw [issueRequest_owner]
  obtain h | h := hstate <;> simp [h, ownerHeld, he, entryIs, hline]

/-- The issue of a CLOSED entry takes it out of the Issue Queue and makes it the owner of its slot. -/
theorem issueEntry_ownersQueued {slot : Fin 16} {i : Fin 32} {e : Entry} {s : State} (h : OwnersQueued s.lat s.mp)
    (he : s.lat.entries.get i = some e) (hi : i ∈ s.lat.issueQueue) :
    OwnersQueued (issueEntry slot i e s).lat (issueEntry slot i e s).mp := by
  have hclosed : e.state = .closed := by
    have := (h.exact.2 i).1 hi
    simpa [he, entryIs, isClosed] using this
  obtain ⟨hstate, hline⟩ := issuedEntry_state s e
  have hlat : (issueEntry slot i e s).lat = { s.lat with
      entries := s.lat.entries.set i (some (issuedEntry s e)),
      issueQueue := s.lat.issueQueue.filter (fun j => j != i) } := by simp [issueEntry]
  have hslots : (issueEntry slot i e s).mp.slots = s.mp.slots.set slot
      (.busy (issueRequest slot i (issuedEntry s e)).1 e.line false (slotDeadlineFrom s)) := by
    simp [issueEntry, engageSlot]
  refine ⟨fun j => ?_, ?_, fun j => ?_⟩
  · rw [hslots, hlat]
    by_cases hj : slot = j
    · subst hj
      rw [Table.get_set_self]
      exact ownerHeld_issued (by simp) hstate hline
    · rw [Table.get_set_ne _ hj]
      refine ownerHeld_of_kept (h.owners j) fun k x hk hx => ?_
      obtain ⟨y, hy, hys, -⟩ := ownerHeld_entry (h.owners j) hk
      have hik : i ≠ k := fun hik => by
        rw [← hik, he] at hy
        cases hy
        rw [hclosed] at hys
        obtain h | h := hys <;> cases h
      exact ⟨x, by rw [Table.get_set_ne _ hik, hx], rfl, rfl⟩
  · rw [hlat]
    exact h.exact.1.filter _
  · rw [hlat]
    by_cases hij : i = j
    · subst hij
      obtain hs | hs := hstate <;> simp [entryIs, isClosed, hs]
    · simp [Table.get_set_ne _ hij, h.exact.2 j, Ne.symm hij]

theorem grantRead_ownersWithin (slot : Fin 16) (l : List (Fin 16 × Nat × Span)) (s : State) :
    OwnersWithin s.mp (grantRead slot l s).mp := by
  induction l generalizing s with
  | nil => exact fun j => .inr fun l hl => hl
  | cons x rest ih =>
    obtain ⟨c, i, p⟩ := x
    unfold grantRead
    dsimp only
    split
    · exact ownersWithin_set (slot := slot) (x := .busy (.readOf c i) p.line false (slotDeadlineFrom s))
        (by simp [engageSlot]) rfl
    · have h := ih (resolvePiece c i p s).1
      rwa [resolvePiece_mp] at h

theorem grantSweep_ownersWithin (slot : Fin 16) (s : State) : OwnersWithin s.mp (grantSweep slot s).mp := by
  unfold grantSweep
  split
  · split
    · exact ownersWithin_set rfl rfl
    · exact fun j => .inr fun l hl => hl
  all_goals exact fun j => .inr fun l hl => hl

theorem grantTo_ownersQueued {s : State} (hs : OwnersQueued s.lat s.mp) (slot : Fin 16) (cls : ArbiterClass) :
    OwnersQueued (grantTo slot cls s).lat (grantTo slot cls s).mp := by
  cases cls with
  | write =>
    obtain h | ⟨i, e, hi, he, h⟩ := grantWrite_cases slot s
    · simp only [grantTo, h]
      exact hs.of_slots rfl
    · simp only [grantTo, h]
      exact (issueEntry_ownersQueued hs he (firstEligible_some hi).1).of_slots rfl
  | read =>
    have hlat : (grantTo slot .read s).lat = s.lat := by simp [grantTo]
    rw [hlat]
    exact (hs.within (grantRead_ownersWithin slot (readCandidates s) s)).of_slots rfl
  | sweep =>
    have hlat : (grantTo slot .sweep s).lat = s.lat := by simp [grantTo]
    rw [hlat]
    exact (hs.within (grantSweep_ownersWithin slot s)).of_slots rfl

/-! ## Responses and deadlines -/

theorem OwnersQueued.afterEnd {s : State} (h : OwnersQueued s.lat s.mp) :
    OwnersQueued (afterEntryEnd s).lat (afterEntryEnd s).mp :=
  (h.requeue (requeued_takes.afterEntryEnd s)).of_slots (by simp)

/-- The data of a fetch makes its entry the owner of the write on the same slot (R33). -/
theorem fetchToWrite_ownersQueued {slot : Fin 16} {i : Fin 32} {line deadline : Nat} {e : Entry} {s : State}
    (hclaims : ClaimsDistinct s.mp) (h : OwnersQueued s.lat s.mp)
    (hslot : s.mp.slots.get slot = .busy (.fetchOf i) line true deadline) (he : s.lat.entries.get i = some e)
    (memory : Table Byte 64) :
    OwnersQueued (fetchToWrite slot i line e memory s).lat (fetchToWrite slot i line e memory s).mp := by
  have hentry : slotEntry (s.mp.slots.get slot) = some i := by rw [hslot]; rfl
  obtain ⟨x, hx, hstate, hclaim⟩ := ownerHeld_entry (h.owners slot) hentry
  cases he.symm.trans hx
  have hline : line = e.line := by rw [hslot] at hclaim; exact Option.some.inj hclaim
  have hother := (canEnd_of_owner (m' := (freeSlot slot s).mp) hclaims h hentry (by simp [freeSlot, slotEntry])
    (fun j hj => by simp [freeSlot, Table.get_set_ne _ (Ne.symm hj)])).1.unowned
  have hopen : entryIs isClosed (s.lat.entries.get i) = false := by
    rw [he]
    refine entryIs_isClosed_of_state fun hc => ?_
    rw [hc] at hstate
    obtain h | h := hstate <;> cases h
  refine ⟨fun j => ?_, h.exact.puts hopen (by simp)⟩
  by_cases hj : slot = j
  · subst hj
    simp [fetchToWrite, engageSlot, ownerHeld, entryIs, hline]
  · have hsame : (fetchToWrite slot i line e memory s).mp.slots.get j = s.mp.slots.get j := by
      simp [fetchToWrite, engageSlot, Table.get_set_ne _ hj]
    rw [hsame]
    refine ownerHeld_of_kept (h.owners j) fun k y hk hy => ?_
    have hik : i ≠ k := fun hik => hother j (by simpa [freeSlot, Table.get_set_ne _ hj, hik] using hk)
    exact ⟨y, by simp [fetchToWrite, engageSlot, Table.get_set_ne _ hik, hy], rfl, rfl⟩

theorem receive_ownersQueued {s : State} (hclaims : ClaimsDistinct s.mp) (hs : OwnersQueued s.lat s.mp)
    (r : MemoryResponse) : OwnersQueued (receive r s).lat (receive r s).mp := by
  have hfree : OwnersWithin s.mp (freeSlot r.slot s).mp := ownersWithin_set (slot := r.slot) (x := .free) rfl rfl
  have hends : ∀ i, slotEntry (s.mp.slots.get r.slot) = some i →
      CanEnd i s.lat (freeSlot r.slot s).mp ∧ ∃ e, s.lat.entries.get i = some e := fun i hi =>
    canEnd_of_owner hclaims hs hi (by simp [freeSlot, slotEntry])
      (fun j hj => by simp [freeSlot, Table.get_set_ne _ (Ne.symm hj)])
  obtain ⟨i, line, deadline, hslot, h⟩ | ⟨i, line, deadline, hslot, h⟩ | ⟨c, n, line, -, -, h⟩ | ⟨line, -, -, h⟩ |
    ⟨purpose, line, -, h⟩ | h := receive_cases r s
  · obtain ⟨hcan, e, he⟩ := hends i (by rw [hslot]; rfl)
    rw [h]
    cases hread : readData r with
    | none =>
      rw [fetchReturned_failed hread]
      refine OwnersQueued.afterEnd ?_
      simpa using endEntry_ownersQueued (s := freeSlot r.slot s) (.lost .fetchFault) hcan he
    | some data =>
      obtain ⟨counters, hcount⟩ := countCorrected_nu data.2 s
      rw [fetchReturned_merged hread he, hcount]
      exact fetchToWrite_ownersQueued (s := { s with nu := { s.nu with counters := counters } }) hclaims hs hslot he data.1
  · obtain ⟨hcan, e, he⟩ := hends i (by rw [hslot]; rfl)
    rw [h]
    refine OwnersQueued.afterEnd ?_
    simpa using endEntry_ownersQueued (s := aheadAfterWrite i (writeDone r) (freeSlot r.slot s))
      (if writeDone r then .completed else .lost .writeFault) (by simpa using hcan) (e := e) (by simpa using he)
  · rw [h]
    simpa [readReturned_eq] using hs.within hfree
  · rw [h]
    simpa [sweepReturned] using hs.within hfree
  · rw [h]
    simpa [lateResponse] using hs.within hfree
  · rw [h]
    exact hs

theorem expireSlot_ownersQueued {s : State} (hclaims : ClaimsDistinct s.mp) (hs : OwnersQueued s.lat s.mp)
    (slot : Fin 16) : OwnersQueued (expireSlot slot s).lat (expireSlot slot s).mp := by
  obtain ⟨owner, line, sent, deadline, hslot, h⟩ | h := expireSlot_cases slot s
  · have horphan : OwnersWithin s.mp (orphanSlot slot owner line sent deadline s).mp :=
      ownersWithin_set (slot := slot) (x := .orphaned (ownerPurpose owner) line sent) rfl rfl
    have hends : ∀ i, slotEntry (s.mp.slots.get slot) = some i →
        CanEnd i s.lat (orphanSlot slot owner line sent deadline s).mp ∧ ∃ e, s.lat.entries.get i = some e := fun i hi =>
      canEnd_of_owner hclaims hs hi (by simp [orphanSlot, slotEntry])
        (fun j hj => by simp [orphanSlot, Table.get_set_ne _ (Ne.symm hj)])
    have htold : OwnersQueued (ownerTimeout owner (orphanSlot slot owner line sent deadline s)).lat
        (ownerTimeout owner (orphanSlot slot owner line sent deadline s)).mp := by
      cases owner with
      | fetchOf i =>
        obtain ⟨hcan, e, he⟩ := hends i (by rw [hslot]; rfl)
        simpa [ownerTimeout] using endEntry_ownersQueued (s := orphanSlot slot (.fetchOf i) line sent deadline s)
          (.lost .fetchTimeout) (by simpa using hcan) (e := e) (by simpa using he)
      | writeOf i =>
        obtain ⟨hcan, e, he⟩ := hends i (by rw [hslot]; rfl)
        simpa [ownerTimeout] using endEntry_ownersQueued
          (s := aheadAfterWrite i false (orphanSlot slot (.writeOf i) line sent deadline s))
          .unconfirmed (by simpa using hcan) (e := e) (by simpa using he)
      | readOf c n => simpa [ownerTimeout] using hs.within horphan
      | sweepEngine => simpa [ownerTimeout] using hs.within horphan
    have hjudged : OwnersQueued (toldOrphan slot owner line sent deadline s).lat
        (toldOrphan slot owner line sent deadline s).mp :=
      OwnersQueued.of_slots (by simpa [toldOrphan] using htold) (judgeStall_slots _)
    rw [h]
    split
    · exact hjudged.afterEnd
    · simpa using hjudged
  · rw [h]; exact hs

/-- A discarded barrier entry leaves the Issue Queue as it ends; a CLOSED entry owns no slot (R60). -/
theorem discardNext_ownersQueued {s : State} (hs : OwnersQueued s.lat s.mp) :
    OwnersQueued (discardNext s).lat (discardNext s).mp := by
  obtain ⟨-, h⟩ | ⟨i, rest, u, -, rfl, ⟨-, h⟩ | ⟨b, hb, h⟩⟩ := discardNext_cases s
  · rw [h]; exact hs
  · rw [h]; exact hs
  · obtain ⟨e, he, hclosed⟩ : ∃ e, s.lat.entries.get i = some e ∧ e.state = .closed := by
      unfold suppressedBarrier at hb
      split at hb
      · rename_i e he
        split at hb
        · rename_i hc; exact ⟨e, he, hc.1⟩
        · cases hb
      · cases hb
    have hcan : CanEnd i { s.lat with issueQueue := s.lat.issueQueue.filter (fun j => j != i) } s.mp := by
      refine ⟨fun j => ownerHeld_of_kept (hs.owners j) fun k x hk hx => ⟨x, hx, rfl, rfl⟩, fun j hj => ?_,
        hs.exact.1.filter _, fun j => ?_⟩
      · obtain ⟨x, hx, hstate, -⟩ := ownerHeld_entry (hs.owners j) hj
        cases he.symm.trans hx
        rw [hclosed] at hstate
        obtain h | h := hstate <;> cases h
      · simp [hs.exact.2 j, and_comm]
    have hended : OwnersQueued (discardEntry i b.rule { s with ord := { s.ord with discards := rest } }).lat s.mp :=
      endEntry_ownersQueued (s := unqueue i { s with ord := { s.ord with discards := rest } }) _ hcan he
    rw [h]
    have hjudged := hended.requeue (requeued_takes.judgeHead _)
    simpa using hjudged

/-! ## The acts -/

theorem reclaim_ownersWithin (s : State) : OwnersWithin s.mp (reclaim s).mp := by
  intro j
  simp only [reclaim, Table.get_map]
  split
  · exact .inl rfl
  · exact .inr fun l hl => hl

/-- After a warm reset the table is empty, and no slot has an owner (R22, R130). -/
theorem warmReset_ownersQueued (s : State) : OwnersQueued (warmReset s).lat (warmReset s).mp := by
  refine ⟨fun j => ownerHeld_of_no_entry ?_, ?_⟩
  · rw [warmReset_slots, Table.get_map]
    cases s.mp.slots.get j <;> rfl
  · have hlat : (warmReset s).lat = Lat.reset := by
      unfold warmReset
      split
      · simp [clearTraffic]
      · rfl
    rw [hlat]
    exact ⟨List.nodup_nil, fun j => by simp [Lat.reset, entryIs]⟩

theorem issueLaw_event {c : Instr} {act : State → State} {s : State} (hc : eventAct c = some act)
    (hclaims : ClaimLaw s) (hs : OwnersQueued s.lat s.mp) : OwnersQueued (act s).lat (act s).mp := by
  cases c <;> cases hc
  case requestArrival q => simpa using hs.requeue (requeued_takes.arrive q s)
  case take time => simpa using hs.requeue (requeued_takes.takeAt time s)
  case grant time =>
    dsimp only
    have hs' : OwnersQueued (atTime time s).lat (atTime time s).mp := hs
    obtain h | ⟨slot, cls, -, -, h⟩ := grantOne_cases (atTime time s)
    · rw [h]; exact hs'
    · rw [h]
      simpa using grantTo_ownersQueued hs' slot cls
  case memoryLinkAccept => simpa using hs.within (acceptHead_ownersWithin s)
  case memoryResponse time r => exact receive_ownersQueued (s := atTime time s) hclaims.1 hs r
  case slotDeadline slot => exact expireSlot_ownersQueued hclaims.1 hs slot
  case gatherDeadline i =>
    unfold gatherExpires
    split
    · exact hs.requeue (closeIn_requeued .idle i s.lat)
    · exact hs
  case suppressionDiscard => exact discardNext_ownersQueued hs
  case readResponse =>
    obtain ⟨-, h⟩ | ⟨c, rest, u, -, rfl, ⟨-, h⟩ | ⟨x, -, h⟩⟩ := sendReadResponse_cases s
    · rw [h]; exact hs
    · rw [h]; exact hs
    · have hjudged := OwnersQueued.requeue (m := s.mp) hs
        (requeued_takes.judgeHead (answerContext c x { s with rdp := { s.rdp with ready := rest } }))
      rw [h]
      simpa using hjudged
  all_goals simpa using hs

theorem issueLaw_frame {c : Instr} {act : State → State} {s : State} (hc : frameAct c = some act)
    (hs : OwnersQueued s.lat s.mp) : OwnersQueued (act s).lat (act s).mp := by
  have hlat : ∀ u : State, u.lat = s.lat → u.mp.slots = s.mp.slots → OwnersQueued (comeOnline u).lat (comeOnline u).mp := by
    intro u hl hm
    have hjudged := (hl.symm ▸ hs : OwnersQueued u.lat s.mp).requeue (requeued_takes.judgeHead (setMode .online u))
    exact OwnersQueued.of_slots (by simpa [comeOnline] using hjudged) (by simp [hm])
  cases c <;> cases hc
  case goOnline =>
    unfold goOnline
    split
    · exact hlat _ rfl rfl
    · exact hs
  case resume =>
    unfold resume
    split
    · exact hlat _ (by simp) (by simp)
    · exact hs
  case quiesce =>
    unfold quiesce
    split
    · split
      · have hclosed := hs.requeue (requeued_takes.closeWhere .drain (fun _ => true)
          (setMode .draining (startLong .quiesce (answer .started s))))
        simpa [startDrain] using hclosed
      · exact hs
    · exact hs
  case flush =>
    unfold flush
    split
    · split
      · exact hs.requeue (requeued_takes.closeWhere .flush (fun _ => true) (answer .started s))
      · exact hs
    · exact hs
  case resetBridge => exact warmReset_ownersQueued s
  case reclaimSlots =>
    unfold reclaimSlots
    split
    · exact hs
    · exact hs.within (reclaim_ownersWithin s)
  all_goals simpa using hs

theorem issueLaw_kept : KeptByActs IssueLaw where
  noAct _ _ _ _ _ _ hs := (issueLaw_iff _).2 ⟨claimLaw_kept.noAct _ _ _ _ _ _ hs.1, ((issueLaw_iff _).1 hs).2⟩
  powerOn held s := (issueLaw_iff _).2 ⟨claimLaw_kept.powerOn held s,
    fun j => by simp [powerOnState, State.reset, Mp.reset, ownerHeld], List.nodup_nil,
    fun j => by simp [powerOnState, State.reset, Lat.reset, entryIs]⟩
  flushEnd s hs := (issueLaw_iff _).2 ⟨claimLaw_kept.flushEnd s hs.1, by simpa using ((issueLaw_iff s).1 hs).2⟩
  event c act s hc hs := (issueLaw_iff _).2 ⟨claimLaw_kept.event c act s hc hs.1,
    issueLaw_event hc hs.1 ((issueLaw_iff s).1 hs).2⟩
  frame c act s hc hs := (issueLaw_iff _).2 ⟨claimLaw_kept.frame c act s hc hs.1,
    issueLaw_frame hc ((issueLaw_iff s).1 hs).2⟩

/-- Settles O49: closes append exactly the newly CLOSED entries, an issue or a discard takes its entry out of the queue, and by the
claim law the entry that ends with its slot owns no other. -/
theorem issueQueueHoldsTheClosedEntries : Obligations.IssueQueueHoldsTheClosedEntries := fun _ _ hs h =>
  issueLaw_kept.step hs h

end Sys2Proof.Machine
end

section
/-! GATHERING entries and held lists (R3, R10): what each act makes of them, and the statement about them. -/

namespace Sys2Proof.Machine

/-! ## The law of a table -/

theorem isGathering_iff (e : Entry) : isGathering e = true ↔ e.state = .gathering := by simp [isGathering]

/-- No line has two GATHERING entries, and no held list more than four indices. -/
structure GatherSound (l : Lat) : Prop where
  unique : ∀ i j x y, l.entries.get i = some x → l.entries.get j = some y → x.state = .gathering →
    y.state = .gathering → x.line = y.line → i = j
  held : ∀ i x, l.entries.get i = some x → x.held.length ≤ Config.heldCapacity

theorem gatherSameLine_iff {a b : Option Entry} : gatherSameLine a b = true ↔
    ∃ x y, a = some x ∧ b = some y ∧ x.state = .gathering ∧ y.state = .gathering ∧ x.line = y.line := by
  cases a <;> cases b <;> simp [gatherSameLine, isGathering, and_assoc]

theorem gatherLaw_iff (s : State) : GatherLaw s ↔ GatherSound s.lat := by
  refine ⟨fun ⟨hu, hh⟩ => ⟨fun i j x y hx hy hgx hgy hline => ?_, fun i x hx => ?_⟩, fun h => ⟨fun i j hij => ?_, fun i => ?_⟩⟩
  · exact hu i j (gatherSameLine_iff.2 ⟨x, y, hx, hy, hgx, hgy, hline⟩)
  · have := hh i
    rw [hx] at this
    simpa [entryIs] using this
  · obtain ⟨x, y, hx, hy, hgx, hgy, hline⟩ := gatherSameLine_iff.1 hij
    exact h.unique i j x y hx hy hgx hgy hline
  · rw [Bool.eq_false_iff]
    intro hfull
    obtain ⟨x, hx, hp⟩ := entryIs_iff.1 hfull
    have := h.held i x hx
    simp only [decide_eq_true_eq] at hp
    omega

/-- Where no line has two GATHERING entries, the one of a line is the one that the lookup finds. -/
theorem GatherSound.gatheringOf {l : Lat} (h : GatherSound l) {i : Fin 32} {e : Entry} (he : l.entries.get i = some e)
    (hg : e.state = .gathering) : gatheringOf l e.line = some i := by
  cases hj : Machine.gatheringOf l e.line with
  | none => exact absurd rfl (gatheringOf_none hj he hg)
  | some j =>
    obtain ⟨x, hx, hgx, hline⟩ := gatheringOf_some hj
    exact congrArg some (h.unique j i x e hx he hgx hg hline)

/-! ## Operations that open no entry -/

/-- Every entry of the later table is an entry of the earlier one, with its held list, and GATHERING on its line only if it was. -/
def GatherWithin (l l' : Lat) : Prop := ∀ i e', l'.entries.get i = some e' → ∃ e, l.entries.get i = some e ∧
  e'.held = e.held ∧ (e'.state = .gathering → e.state = .gathering ∧ e'.line = e.line)

theorem GatherWithin.refl (l : Lat) : GatherWithin l l := fun _ e he => ⟨e, he, rfl, fun hg => ⟨hg, rfl⟩⟩

theorem GatherWithin.of_eq {l l' : Lat} (h : l' = l) : GatherWithin l l' := h ▸ .refl l

theorem GatherWithin.trans {l m n : Lat} (h : GatherWithin l m) (h' : GatherWithin m n) : GatherWithin l n := by
  intro i z hz
  obtain ⟨y, hy, hheld, hgy⟩ := h' i z hz
  obtain ⟨x, hx, hheld', hgx⟩ := h i y hy
  refine ⟨x, hx, hheld.trans hheld', fun hg => ?_⟩
  obtain ⟨hg', hline⟩ := hgy hg
  obtain ⟨hg'', hline'⟩ := hgx hg'
  exact ⟨hg'', hline.trans hline'⟩

theorem GatherSound.within {l l' : Lat} (h : GatherSound l) (hw : GatherWithin l l') : GatherSound l' := by
  refine ⟨fun i j x y hx hy hgx hgy hline => ?_, fun i x hx => ?_⟩
  · obtain ⟨a, ha, -, hga⟩ := hw i x hx
    obtain ⟨b, hb, -, hgb⟩ := hw j y hy
    obtain ⟨hga, hla⟩ := hga hgx
    obtain ⟨hgb, hlb⟩ := hgb hgy
    exact h.unique i j a b ha hb hga hgb (by rw [← hla, ← hlb, hline])
  · obtain ⟨a, ha, hheld, -⟩ := hw i x hx
    rw [hheld]
    exact h.held i a ha

/-- An entry that takes the place of one with the same held list and is not GATHERING. -/
theorem gatherWithin_set {l l' : Lat} {i : Fin 32} {e e' : Entry} (he : l.entries.get i = some e)
    (hentries : l'.entries = l.entries.set i (some e')) (hheld : e'.held = e.held) (hg : e'.state ≠ .gathering) :
    GatherWithin l l' := by
  intro j x hx
  rw [hentries] at hx
  by_cases hij : i = j
  · subst hij
    rw [Table.get_set_self] at hx
    cases hx
    exact ⟨e, he, hheld, fun h => absurd h hg⟩
  · rw [Table.get_set_ne _ hij] at hx
    exact ⟨x, hx, rfl, fun h => ⟨h, rfl⟩⟩

theorem gatherWithin_closes : ClosesObey GatherWithin where
  refl := .refl
  trans _ _ _ := GatherWithin.trans
  close cause i l := by
    obtain h | ⟨e, he, -, h⟩ := closeIn_cases cause i l
    · exact .of_eq h
    · rw [h]
      exact gatherWithin_set he rfl rfl (by simp)

theorem endEntry_gatherWithin (i : Fin 32) (kind : EndKind) (s : State) : GatherWithin s.lat (endEntry i kind s).lat := by
  cases he : s.lat.entries.get i with
  | none => exact .of_eq (by simp [endEntry, he])
  | some e =>
    rw [endEntry_lat kind he]
    intro j x hx
    by_cases hij : i = j
    · subst hij
      simp at hx
    · simp only [Table.get_set_ne _ hij, Table.get_map] at hx
      cases hj : s.lat.entries.get j with
      | none => rw [hj] at hx; cases hx
      | some y =>
        rw [hj] at hx
        cases hx
        exact ⟨y, rfl, rfl, fun h => ⟨h, rfl⟩⟩

theorem issuedEntry_held (s : State) (e : Entry) : (issuedEntry s e).held = e.held := by
  unfold issuedEntry
  split <;> rfl

theorem grantTo_gatherWithin (slot : Fin 16) (cls : ArbiterClass) (s : State) :
    GatherWithin s.lat (grantTo slot cls s).lat := by
  cases cls with
  | write =>
    obtain h | ⟨i, e, -, he, h⟩ := grantWrite_cases slot s
    · exact .of_eq (by simp [grantTo, h])
    · have hstate := (issuedEntry_state s e).1
      refine gatherWithin_set (e' := issuedEntry s e) he (by simp [grantTo, h, issueEntry]) (issuedEntry_held s e) ?_
      intro hg
      rw [hg] at hstate
      obtain h | h := hstate <;> cases h
  | read => exact .of_eq (by simp [grantTo])
  | sweep => exact .of_eq (by simp [grantTo])

theorem receive_gatherWithin (r : MemoryResponse) (s : State) : GatherWithin s.lat (receive r s).lat := by
  obtain ⟨i, line, deadline, -, h⟩ | ⟨i, line, -, -, h⟩ | ⟨c, n, line, -, -, h⟩ | ⟨line, -, -, h⟩ | ⟨purpose, line, -, h⟩ | h :=
    receive_cases r s
  · rw [h]
    cases hread : readData r with
    | none =>
      rw [fetchReturned_failed hread]
      refine GatherWithin.trans ?_ (gatherWithin_closes.afterEntryEnd _)
      simpa using endEntry_gatherWithin i (.lost .fetchFault) (freeSlot r.slot s)
    | some data =>
      obtain ⟨counters, hcount⟩ := countCorrected_nu data.2 s
      cases he : s.lat.entries.get i with
      | none => rw [fetchReturned_free hread he, hcount]; exact .refl _
      | some e =>
        rw [fetchReturned_merged hread he, hcount]
        exact gatherWithin_set (e' := { e with state := .writing, cells := fillCells e.cells data.1.get }) he rfl rfl (by simp)
  · rw [h]
    refine GatherWithin.trans ?_ (gatherWithin_closes.afterEntryEnd _)
    simpa using endEntry_gatherWithin i (if writeDone r then .completed else .lost .writeFault)
      (aheadAfterWrite i (writeDone r) (freeSlot r.slot s))
  all_goals
    rw [h]
    exact .of_eq (by simp)

theorem expireSlot_gatherWithin (slot : Fin 16) (s : State) : GatherWithin s.lat (expireSlot slot s).lat := by
  obtain ⟨owner, line, sent, deadline, -, h⟩ | h := expireSlot_cases slot s
  · have htold : GatherWithin s.lat (toldOrphan slot owner line sent deadline s).lat := by
      cases owner with
      | fetchOf i =>
        simpa [toldOrphan, ownerTimeout] using
          endEntry_gatherWithin i (.lost .fetchTimeout) (orphanSlot slot (.fetchOf i) line sent deadline s)
      | writeOf i =>
        simpa [toldOrphan, ownerTimeout] using endEntry_gatherWithin i .unconfirmed
          (aheadAfterWrite i false (orphanSlot slot (.writeOf i) line sent deadline s))
      | readOf c n => exact .of_eq (by simp [toldOrphan, ownerTimeout])
      | sweepEngine => exact .of_eq (by simp [toldOrphan, ownerTimeout])
    rw [h]
    split
    · exact htold.trans (gatherWithin_closes.afterEntryEnd _)
    · exact htold.trans (.of_eq (by simp))
  · exact .of_eq (by rw [h])

theorem discardNext_gatherWithin (s : State) : GatherWithin s.lat (discardNext s).lat := by
  obtain ⟨-, h⟩ | ⟨i, rest, u, -, rfl, ⟨-, h⟩ | ⟨b, -, h⟩⟩ := discardNext_cases s
  · exact .of_eq (by rw [h])
  · exact .of_eq (by rw [h])
  · rw [h]
    have hended : GatherWithin s.lat (discardEntry i b.rule { s with ord := { s.ord with discards := rest } }).lat :=
      endEntry_gatherWithin i _ (unqueue i { s with ord := { s.ord with discards := rest } })
    simpa using hended.trans (gatherWithin_closes.judgeHead _)

/-- Every event but a TAKE opens no entry. -/
theorem eventAct_gatherWithin {c : Instr} {act : State → State} (hc : eventAct c = some act) (s : State) :
    (∃ time, c = .take time) ∨ GatherWithin s.lat (act s).lat := by
  cases c <;> cases hc
  case requestArrival q => exact .inr (gatherWithin_closes.arrive q s)
  case take time => exact .inl ⟨time, rfl⟩
  case grant time =>
    refine .inr ?_
    dsimp only
    obtain h | ⟨slot, cls, -, -, h⟩ := grantOne_cases (atTime time s)
    · rw [h]; exact .refl _
    · rw [h]
      simpa using grantTo_gatherWithin slot cls (atTime time s)
  case memoryResponse time r => exact .inr (receive_gatherWithin r (atTime time s))
  case slotDeadline slot => exact .inr (expireSlot_gatherWithin slot s)
  case gatherDeadline i =>
    refine .inr ?_
    unfold gatherExpires
    split
    · exact gatherWithin_closes.close .idle i s.lat
    · exact .refl _
  case suppressionDiscard => exact .inr (discardNext_gatherWithin s)
  case readResponse =>
    refine .inr ?_
    obtain ⟨-, h⟩ | ⟨c, rest, u, -, rfl, ⟨-, h⟩ | ⟨x, -, h⟩⟩ := sendReadResponse_cases s
    · exact .of_eq (by rw [h])
    · exact .of_eq (by rw [h])
    · rw [h]
      simpa using gatherWithin_closes.judgeHead (answerContext c x { s with rdp := { s.rdp with ready := rest } })
  all_goals exact .inr (.of_eq (by simp))

/-- No management command opens an entry. -/
theorem frameAct_gatherWithin {c : Instr} {act : State → State} (hc : frameAct c = some act) (s : State) :
    GatherWithin s.lat (act s).lat := by
  have honline : ∀ u : State, u.lat = s.lat → GatherWithin s.lat (comeOnline u).lat := by
    intro u hu
    have hjudged := gatherWithin_closes.judgeHead (setMode .online u)
    simpa [comeOnline, hu] using hjudged
  cases c <;> cases hc
  case goOnline =>
    unfold goOnline
    split
    · exact honline _ rfl
    · exact .refl _
  case resume =>
    unfold resume
    split
    · exact honline _ (by simp)
    · exact .refl _
  case quiesce =>
    unfold quiesce
    split
    · split
      · simpa [startDrain] using gatherWithin_closes.closeWhere .drain (fun _ => true)
          (setMode .draining (startLong .quiesce (answer .started s)))
      · exact .refl _
    · exact .refl _
  case flush =>
    unfold flush
    split
    · split
      · exact gatherWithin_closes.closeWhere .flush (fun _ => true) (answer .started s)
      · exact .refl _
    · exact .refl _
  case resetBridge =>
    have hlat : (warmReset s).lat = Lat.reset := by
      unfold warmReset
      split
      · simp [clearTraffic]
      · rfl
    intro i e he
    change (warmReset s).lat.entries.get i = some e at he
    rw [hlat] at he
    simp [Lat.reset] at he
  all_goals exact .of_eq (by simp)

/-! ## The take -/

/-- Every GATHERING entry on the line of the piece has room in its held list for an AOC WRITE. -/
def HeldRoom (aoc : Bool) (l : Lat) (p : Span) : Prop := aoc = true → ∀ i e, l.entries.get i = some e →
  e.state = .gathering → e.line = p.line → e.held.length < Config.heldCapacity

theorem HeldRoom.within {aoc : Bool} {l l' : Lat} {p : Span} (h : HeldRoom aoc l p) (hw : GatherWithin l l') :
    HeldRoom aoc l' p := by
  intro haoc i e he hg hline
  obtain ⟨x, hx, hheld, hgx⟩ := hw i e he
  obtain ⟨hgx, hlx⟩ := hgx hg
  rw [hheld]
  exact h haoc i x hx hgx (by rw [← hlx, hline])

/-- A piece with room opens an entry only on a line without a GATHERING one. -/
theorem HeldRoom.gatheringOf_none {aoc : Bool} {l : Lat} {p : Span} (h : HeldRoom aoc l p)
    (hnone : mergeTarget l aoc p = none) : Machine.gatheringOf l p.line = none := by
  cases hi : Machine.gatheringOf l p.line with
  | none => rfl
  | some i =>
    obtain ⟨e, he, hg, hline⟩ := gatheringOf_some hi
    unfold mergeTarget at hnone
    rw [hi] at hnone
    dsimp only at hnone
    split at hnone
    · cases hnone
    · rename_i hfull
      cases haoc : aoc with
      | false => simp [haoc] at hfull
      | true => exact absurd (by simpa [he, entryIs] using h haoc i e he hg hline) (by simpa [haoc, he, entryIs] using hfull)

/-- An entry put on the line of the piece, where no other GATHERING entry of that line stands, keeps the law and the room on every
other line. -/
theorem GatherSound.places {l : Lat} (h : GatherSound l) {i : Fin 32} {e : Entry} (hheld : e.held.length ≤ Config.heldCapacity)
    (hother : ∀ j x, j ≠ i → l.entries.get j = some x → x.state = .gathering → x.line ≠ e.line) :
    GatherSound (placedLat i e l) := by
  have hput : GatherSound { l with entries := l.entries.set i (some e) } := by
    refine ⟨fun j k x y hx hy hgx hgy hline => ?_, fun j x hx => ?_⟩
    · by_cases hj : i = j <;> by_cases hk : i = k
      · exact hj.symm.trans hk
      · subst hj
        rw [Table.get_set_self] at hx
        rw [Table.get_set_ne _ hk] at hy
        cases hx
        exact absurd hline.symm (hother k y (Ne.symm hk) hy hgy)
      · subst hk
        rw [Table.get_set_self] at hy
        rw [Table.get_set_ne _ hj] at hx
        cases hy
        exact absurd hline (hother j x (Ne.symm hj) hx hgx)
      · rw [Table.get_set_ne _ hj] at hx
        rw [Table.get_set_ne _ hk] at hy
        exact h.unique j k x y hx hy hgx hgy hline
    · by_cases hj : i = j
      · subst hj
        rw [Table.get_set_self] at hx
        cases hx
        exact hheld
      · rw [Table.get_set_ne _ hj] at hx
        exact h.held j x hx
  unfold placedLat
  split
  · exact hput.within (gatherWithin_closes.close _ _ _)
  · exact hput

theorem placedLat_heldRoom {aoc : Bool} {l : Lat} {p : Span} (h : HeldRoom aoc l p) {i : Fin 32} {e : Entry}
    (hline : e.line ≠ p.line) : HeldRoom aoc (placedLat i e l) p := by
  have hput : HeldRoom aoc { l with entries := l.entries.set i (some e) } p := by
    intro haoc j x hx hg hxl
    by_cases hj : i = j
    · subst hj
      rw [Table.get_set_self] at hx
      cases hx
      exact absurd hxl hline
    · rw [Table.get_set_ne _ hj] at hx
      exact h haoc j x hx hg hxl
  unfold placedLat
  split
  · exact hput.within (gatherWithin_closes.close _ _ _)
  · exact hput

/-- A piece placed with room keeps the law, and the room on every other line. -/
theorem placePiece_gatherSound {q : Request} {w : Option (Fin 16)} {s : State} {p : Span} (h : GatherSound s.lat)
    (hw : w.isSome = true → q.aoc = true) (hroom : HeldRoom q.aoc s.lat p) : GatherSound (placePiece q w s p).lat ∧
      ∀ p', p'.line ≠ p.line → HeldRoom q.aoc s.lat p' → HeldRoom q.aoc (placePiece q w s p).lat p' := by
  obtain ⟨i, e, hi, he, hlat⟩ | ⟨i, hnone, -, hlat⟩ | ⟨-, -, hsame⟩ := placePiece_lat_cases q w s p
  · obtain ⟨-, x, hx, hg, hline, hheld⟩ := mergeTarget_some hi
    cases he.symm.trans hx
    rw [hlat]
    refine ⟨h.places ?_ (fun j y hji hy hgy hly => hji (h.unique j i y e hy he hgy hg hly)), fun p' hp' hr => ?_⟩
    · have hle := h.held i e he
      cases w with
      | none => simpa [mergedEntry, heldOf] using hle
      | some w =>
        have := hheld (hw rfl)
        simp [mergedEntry, heldOf]
        omega
    · exact placedLat_heldRoom hr (fun heq => hp' (heq.symm.trans hline))
  · have hempty := hroom.gatheringOf_none hnone
    rw [hlat]
    refine ⟨h.places ?_ (fun j y _ hy hgy => Machine.gatheringOf_none hempty hy hgy), fun p' hp' hr => ?_⟩
    · cases w <;> simp [openedEntry, heldOf, Config.heldCapacity]
    · exact placedLat_heldRoom hr (Ne.symm hp')
  · rw [hsame]
    exact ⟨h, fun _ _ hr => hr⟩

theorem placeAll_gatherSound {q : Request} {w : Option (Fin 16)} (hw : w.isSome = true → q.aoc = true) {spans : List Span}
    (hlines : spans.Pairwise (fun p p' => p'.line ≠ p.line)) {s : State} (h : GatherSound s.lat)
    (hroom : ∀ p ∈ spans, HeldRoom q.aoc s.lat p) : GatherSound (spans.foldl (placePiece q w) s).lat := by
  induction spans generalizing s with
  | nil => exact h
  | cons p rest ih =>
    obtain ⟨hne, hrest⟩ := List.pairwise_cons.1 hlines
    obtain ⟨hsound, hkept⟩ := placePiece_gatherSound h hw (hroom p (by simp))
    exact ih hrest hsound (fun p' hp' => hkept p' (hne p' hp') (hroom p' (List.mem_cons_of_mem p hp')))

/-- The two pieces of a request lie in different lines (R140). -/
theorem requestSpans_lines (q : Request) : (requestSpans q).Pairwise (fun p p' => p'.line ≠ p.line) := by
  unfold requestSpans
  dsimp only
  split
  · simp
  · simp [Config.lineBytes]

/-- The closes of the resource step leave room for every piece of a WRITE under no rule (R14). -/
theorem resourceCloses_heldRoom {q : Request} {s : State} (h : GatherSound s.lat) (hrule : ruleFor s.ord q = none)
    {p : Span} (hp : p ∈ requestSpans q) : HeldRoom q.aoc (resourceCloses q s).lat p := by
  have hroom : HeldRoom q.aoc (closeEach .heldLimit (heldLimitEntries s q) s.lat) p := by
    intro haoc i e he hg hline
    obtain hsame | ⟨-, x, n, -, -, hclosed⟩ := closeEach_get .heldLimit (heldLimitEntries s q) i s.lat
    · rw [hsame] at he
      by_contra hfull
      have hfound := h.gatheringOf he hg
      rw [hline] at hfound
      have hmem : i ∈ heldLimitEntries s q := by
        simp only [heldLimitEntries, haoc, hrule, Option.isNone_none, Bool.and_self, if_true, List.mem_filter,
          List.mem_filterMap]
        exact ⟨⟨p, hp, hfound⟩, entryIs_iff.2 ⟨e, he, by simpa using Nat.le_of_not_lt hfull⟩⟩
      have := closeEach_closes .heldLimit _ hmem s.lat
      rw [hsame, he] at this
      simp [entryIs, isGathering, hg] at this
    · rw [hclosed] at he
      cases he
      simp at hg
  exact hroom.within (gatherWithin_closes.evictFor q { s with lat := closeEach .heldLimit (heldLimitEntries s q) s.lat })

theorem openRelease_gatherSound {q : Request} {w : Option (Fin 16)} {b : Barrier} {s : State} {p : Span}
    (h : GatherSound s.lat) : GatherSound (openRelease q w b s p).lat := by
  unfold openRelease
  split
  · rename_i i hi
    refine ⟨fun j k x y hx hy hgx hgy hline => ?_, fun j x hx => ?_⟩
    · by_cases hj : i = j
      · subst hj
        rw [Table.get_set_self] at hx
        cases hx
        cases hgx
      · by_cases hk : i = k
        · subst hk
          rw [Table.get_set_self] at hy
          cases hy
          cases hgy
        · rw [Table.get_set_ne _ hj] at hx
          rw [Table.get_set_ne _ hk] at hy
          exact h.unique j k x y hx hy hgx hgy hline
    · by_cases hj : i = j
      · subst hj
        rw [Table.get_set_self] at hx
        cases hx
        cases w <;> simp [releaseEntry, openedEntry, heldOf, Config.heldCapacity]
      · rw [Table.get_set_ne _ hj] at hx
        exact h.held j x hx
  · exact h

theorem releaseTake_gatherSound {q : Request} {w : Option (Fin 16)} {k : Fin 8} {r : ReleaseRule} {s : State}
    (h : GatherSound s.lat) : GatherSound (releaseTake q w k r s).lat := by
  have hclosed : GatherSound (closeWhere .release (inScope r.scope q.requester) (releaseOwnLines q s)).lat :=
    (h.within (gatherWithin_closes.releaseOwnLines q s)).within (gatherWithin_closes.closeWhere _ _ _)
  have hopened : ∀ (b : Barrier) (spans : List Span) (u : State), GatherSound u.lat →
      GatherSound (spans.foldl (openRelease q w b) u).lat := by
    intro b spans
    induction spans with
    | nil => exact fun u hu => hu
    | cons p rest ih => exact fun u hu => ih _ (openRelease_gatherSound hu)
  unfold releaseTake
  dsimp only
  split
  · exact hopened _ _ _ hclosed
  · exact hopened _ _ _ hclosed

theorem placeWrite_gatherSound {q : Request} {w : Option (Fin 16)} (hw : w.isSome = true → q.aoc = true) {s : State}
    (h : GatherSound s.lat) (hroom : ruleFor s.ord q = none → ∀ p ∈ requestSpans q, HeldRoom q.aoc s.lat p) :
    GatherSound (placeWrite q w s).lat := by
  unfold placeWrite
  split
  · split
    · exact releaseTake_gatherSound h
    · exact h
  · rename_i hrule
    exact placeAll_gatherSound hw (requestSpans_lines q) h (hroom hrule)

theorem takeServed_gatherSound {q : Request} {s t : State} (h : GatherSound s.lat)
    (ht : takeServed q (closedFor q s) = some t) : GatherSound t.lat := by
  have hclosed : GatherSound (closedFor q s).lat := h.within (gatherWithin_closes.closedFor q s)
  have hroom : q.kind = .write → ruleFor (closedFor q s).ord q = none →
      ∀ p ∈ requestSpans q, HeldRoom q.aoc (closedFor q s).lat p := by
    intro hk hrule p hp
    simp only [closedFor_frame] at hrule
    simp only [closedFor, hk, if_true]
    exact resourceCloses_heldRoom h hrule hp
  obtain ⟨-, c, -, rfl⟩ | ⟨hk, -, ⟨haoc, w, -, rfl⟩ | ⟨-, rfl⟩⟩ | ⟨-, rfl⟩ := takeServed_cases ht
  · simpa using hclosed
  · exact placeWrite_gatherSound (s := holdTag q.requester q.tag (openWrt q w (closedFor q s))) (fun _ => haoc) hclosed
      (hroom hk)
  · exact placeWrite_gatherSound (w := none) (fun hw => by cases hw) hclosed (hroom hk)
  · unfold takeSync
    split
    · exact hclosed
    · exact hclosed.within (gatherWithin_closes.closeWhere .sync _ (holdTag q.requester q.tag (closedFor q s)))

theorem takeAt_gatherSound {s : State} (h : GatherSound s.lat) (time : Nat) : GatherSound (takeAt time s).lat := by
  unfold takeAt
  dsimp only
  split
  · exact h
  · rename_i q _ _
    change GatherSound (takeHead q (acceptFromLink (atTime time s))).lat
    have hs : GatherSound (acceptFromLink (atTime time s)).lat := h
    obtain ⟨-, h'⟩ | ⟨-, h'⟩ | ⟨status, cause, -, h'⟩ | ⟨-, -, h'⟩ | ⟨t, -, ht, h'⟩ :=
      takeHead_cases q (acceptFromLink (atTime time s))
    · rw [h']; exact hs
    · rw [h']; exact hs.within (gatherWithin_closes.leaveIntake _)
    · rw [h']; exact hs.within (gatherWithin_closes.leaveIntake _)
    · rw [h']; exact hs.within (gatherWithin_closes.closedFor q _)
    · rw [h']; exact (takeServed_gatherSound hs ht).within (gatherWithin_closes.leaveIntake t)

theorem gatherLaw_kept : KeptByActs GatherLaw where
  noAct _ _ _ _ _ _ hs := hs
  powerOn held s := (gatherLaw_iff _).2 ⟨fun i j x y hx => by simp [powerOnState, State.reset, Lat.reset] at hx,
    fun i x hx => by simp [powerOnState, State.reset, Lat.reset] at hx⟩
  flushEnd s hs := (gatherLaw_iff _).2 (by simpa using (gatherLaw_iff s).1 hs)
  event c act s hc hs := by
    have h := (gatherLaw_iff s).1 hs
    obtain ⟨time, rfl⟩ | hwithin := eventAct_gatherWithin hc s
    · cases hc
      exact (gatherLaw_iff _).2 (takeAt_gatherSound h time)
    · exact (gatherLaw_iff _).2 (h.within hwithin)
  frame c act s hc hs := (gatherLaw_iff _).2 (((gatherLaw_iff s).1 hs).within (frameAct_gatherWithin hc s))

/-- Settles O50: only a TAKE opens entries, and the closes of its resource step leave it GATHERING entries with room to merge into, or
none on the line. -/
theorem oneGatheringEntryForALine : Obligations.OneGatheringEntryForALine := fun _ _ hs h => gatherLaw_kept.step hs h

end Sys2Proof.Machine
end

section
/-! Tags in use (R143): what each act makes of the outstanding requests and of the tag-in-use set, and the statement about them. -/

namespace Sys2Proof.Machine

/-! ## The places of outstanding requests -/

/-- Where an outstanding request stands: a read context, a WRT record or a Sync Tracker record. -/
inductive Place where
  | context (c : Fin 16)
  | record (w : Fin 16)
  | sync (r : Requester)
  deriving DecidableEq

/-- Every place, in the order of R146. -/
def places : List Place :=
  (List.finRange 16).map .context ++ (List.finRange 16).map .record ++ (List.finRange 16).map .sync

theorem mem_places (a : Place) : a ∈ places := by
  cases a <;> simp [places]

theorem places_nodup : places.Nodup := by decide

/-- The requester and tag of the request at a place. -/
def pairAt (s : State) : Place → Option (Requester × Tag)
  | .context c => (s.rdp.contexts.get c).map (fun x => (x.requester, x.tag))
  | .record w => (s.rqp.wrt.get w).map (fun x => (x.requester, x.tag))
  | .sync r => (s.ord.sync.get r).map (fun x => (r, x.tag))

theorem outstandingPairs_eq (s : State) : outstandingPairs s = places.filterMap (pairAt s) := by
  unfold outstandingPairs places
  rw [Table.cells_eq_map_get s.rdp.contexts, Table.cells_eq_map_get s.rqp.wrt]
  simp only [List.filterMap_append, List.filterMap_map]
  rfl

theorem mem_outstandingPairs (s : State) (p : Requester × Tag) : p ∈ outstandingPairs s ↔ ∃ a, pairAt s a = some p := by
  rw [outstandingPairs_eq, List.mem_filterMap]
  exact ⟨fun ⟨a, _, h⟩ => ⟨a, h⟩, fun ⟨a, h⟩ => ⟨a, mem_places a, h⟩⟩

/-- No pair is outstanding twice: two places with one pair are one place. -/
theorem outstandingPairs_nodup_iff (s : State) :
    (outstandingPairs s).Nodup ↔ ∀ a b p, pairAt s a = some p → pairAt s b = some p → a = b := by
  rw [outstandingPairs_eq]
  refine ⟨fun h a b p ha hb => ?_, fun h => places_nodup.filterMap fun a b p ha hb => h a b p ha hb⟩
  by_contra hne
  have hpair := List.pairwise_filterMap.1 h
  have hsymm : Std.Symm (fun a b => ∀ p, pairAt s a = some p → ∀ p', pairAt s b = some p' → p ≠ p') :=
    ⟨fun a b hab p hp p' hp' heq => hab p' hp' p hp heq.symm⟩
  exact hpair.forall (mem_places a) (mem_places b) hne p ha p hb rfl

theorem tagLaw_iff (s : State) : TagLaw s ↔ s.rqp.tags.Nodup ∧
    (∀ a b p, pairAt s a = some p → pairAt s b = some p → a = b) ∧
    ∀ p, p ∈ s.rqp.tags ↔ ∃ a, pairAt s a = some p := by
  unfold TagLaw
  rw [outstandingPairs_nodup_iff]
  simp only [mem_outstandingPairs]

/-! ## The three ways in which an operation keeps the law -/

theorem TagLaw.of_pairs {s t : State} (hs : TagLaw s) (hpairs : ∀ a, pairAt t a = pairAt s a)
    (htags : t.rqp.tags = s.rqp.tags) : TagLaw t := by
  rw [tagLaw_iff] at hs ⊢
  simpa only [hpairs, htags] using hs

/-- A request that is answered leaves its place and the tag-in-use set (R134). -/
theorem TagLaw.released {s t : State} (hs : TagLaw s) {a : Place} {p : Requester × Tag} (ha : pairAt s a = some p)
    (hpairs : ∀ b, pairAt t b = if b = a then none else pairAt s b)
    (htags : t.rqp.tags = s.rqp.tags.filter (fun x => x != p)) : TagLaw t := by
  rw [tagLaw_iff] at hs ⊢
  obtain ⟨hn, hd, hm⟩ := hs
  refine ⟨by rw [htags]; exact hn.filter _, fun b c x hb hc => ?_, fun x => ?_⟩
  · rw [hpairs] at hb hc
    split at hb
    · cases hb
    · split at hc
      · cases hc
      · exact hd b c x hb hc
  · rw [htags]
    simp only [List.mem_filter, bne_iff_ne, hm x]
    refine ⟨fun ⟨⟨b, hb⟩, hx⟩ => ⟨b, ?_⟩, fun ⟨b, hb⟩ => ?_⟩
    · have hba : b ≠ a := fun h => by
        rw [h, ha] at hb
        exact hx (Option.some.inj hb).symm
      simpa [hpairs, hba] using hb
    · rw [hpairs] at hb
      split at hb
      · cases hb
      · rename_i hba
        refine ⟨⟨b, hb⟩, fun hxp => hba (hd b a p (hxp ▸ hb) ha)⟩

/-- A request that is taken gets a place of its own, and its fresh pair joins the tag-in-use set (R143). -/
theorem TagLaw.taken {s t : State} (hs : TagLaw s) {a : Place} {p : Requester × Tag} (ha : pairAt s a = none)
    (hfresh : p ∉ s.rqp.tags) (hpairs : ∀ b, pairAt t b = if b = a then some p else pairAt s b)
    (htags : t.rqp.tags = s.rqp.tags ++ [p]) : TagLaw t := by
  rw [tagLaw_iff] at hs ⊢
  obtain ⟨hn, hd, hm⟩ := hs
  have hnone : ∀ b, pairAt s b ≠ some p := fun b hb => hfresh ((hm p).2 ⟨b, hb⟩)
  refine ⟨?_, fun b c x hb hc => ?_, fun x => ?_⟩
  · rw [htags]
    simpa [List.nodup_append, hn] using fun x y hxy (h : (x, y) = p) => hfresh (h ▸ hxy)
  · rw [hpairs] at hb hc
    split at hb
    · rename_i hba
      cases hb
      split at hc
      · rename_i hca; exact hba.trans hca.symm
      · exact absurd hc (hnone c)
    · split at hc
      · cases hc; exact absurd hb (hnone b)
      · exact hd b c x hb hc
  · rw [htags, List.mem_append, List.mem_singleton, hm x]
    refine ⟨?_, fun ⟨b, hb⟩ => ?_⟩
    · rintro (⟨b, hb⟩ | rfl)
      · refine ⟨b, ?_⟩
        have hba : b ≠ a := fun h => by rw [h, ha] at hb; cases hb
        simpa [hpairs, hba] using hb
      · exact ⟨a, by simp [hpairs]⟩
    · rw [hpairs] at hb
      split at hb
      · exact .inr (Option.some.inj hb).symm
      · exact .inl ⟨b, hb⟩

/-! ## Operations of the Read Path -/

/-- The requesters and tags of the contexts are as they were. -/
def SameReaders (s t : State) : Prop := ∀ c, pairAt t (.context c) = pairAt s (.context c)

theorem contextWithDone_pair (x : Context) (i : Nat) (status : ReadStatus) (bytes : List Byte) :
    (contextWithDone x i status bytes).requester = x.requester ∧ (contextWithDone x i status bytes).tag = x.tag := by
  unfold contextWithDone
  split <;> exact ⟨rfl, rfl⟩

/-- A context that takes the place of one with its requester and tag. -/
theorem sameReaders_set {s t : State} {c : Fin 16} {x y : Context} (hx : s.rdp.contexts.get c = some x)
    (ht : t.rdp.contexts = s.rdp.contexts.set c (some y)) (hy : y.requester = x.requester ∧ y.tag = x.tag) :
    SameReaders s t := by
  intro d
  by_cases hd : c = d
  · subst hd
    simp [pairAt, ht, hx, hy]
  · simp [pairAt, ht, Table.get_set_ne _ hd]

theorem SameReaders.refl (s : State) : SameReaders s s := fun _ => rfl

theorem SameReaders.trans {s t u : State} (h : SameReaders s t) (h' : SameReaders t u) : SameReaders s u :=
  fun c => (h' c).trans (h c)

theorem SameReaders.of_eq {s t : State} (h : t.rdp.contexts = s.rdp.contexts) : SameReaders s t := fun c => by
  simp [pairAt, h]

theorem finishPiece_readers (c : Fin 16) (i : Nat) (status : ReadStatus) (bytes : List Byte) (s : State) :
    SameReaders s (finishPiece c i status bytes s) := by
  cases hx : s.rdp.contexts.get c with
  | none => exact .of_eq (by simp [finishPiece, hx])
  | some x =>
    exact sameReaders_set (y := contextWithDone x i status bytes) hx (by simp [finishPiece, hx]) (contextWithDone_pair x i _ _)

theorem setPieceState_readers (c : Fin 16) (i : Nat) (state : PieceState) (s : State) :
    SameReaders s (setPieceState c i state s) := by
  cases hx : s.rdp.contexts.get c with
  | none => exact .of_eq (by simp [setPieceState, hx])
  | some x =>
    exact sameReaders_set (y := { x with pieces := x.pieces.modify i (fun p => { p with state := state }) }) hx
      (by simp [setPieceState, hx]) ⟨rfl, rfl⟩

theorem resolvePiece_readers (c : Fin 16) (i : Nat) (p : Span) (s : State) : SameReaders s (resolvePiece c i p s).1 := by
  unfold resolvePiece
  split
  · exact finishPiece_readers c i _ _ (countOne .forwardedReads s)
  · exact finishPiece_readers c i _ _ (countOne .patternReads s)
  · exact .refl s

theorem resolveAll_readers (c : Fin 16) (i : Nat) (spans : List Span) (s : State) :
    SameReaders s (resolveAll c i spans s) := by
  induction spans generalizing i s with
  | nil => exact .refl s
  | cons p rest ih => exact (resolvePiece_readers c i p s).trans (ih (i + 1) _)

theorem failPiece_readers (c : Fin 16) (i : Nat) (status : ReadStatus) (cause : FaultCause) (s : State) :
    SameReaders s (failPiece c i status cause s) := by
  unfold failPiece
  split
  · split
    · dsimp only
      split
      · exact finishPiece_readers _ _ _ _ s
      · exact finishPiece_readers _ _ _ _ (post _ s)
    · exact .refl s
  · exact .refl s

theorem returnPiece_readers (c : Fin 16) (i : Nat) (line : Table Byte 64) (s : State) :
    SameReaders s (returnPiece c i line s) := by
  unfold returnPiece
  split
  · split
    · exact finishPiece_readers _ _ _ _ s
    · exact .refl s
  · exact .refl s

theorem pieceReturned_readers (c : Fin 16) (n : Nat) (r : MemoryResponse) (s : State) :
    SameReaders s (pieceReturned c n r s) := by
  unfold pieceReturned
  split
  · rename_i corrected _
    obtain ⟨counters, hcount⟩ := countCorrected_nu corrected s
    rw [hcount]
    exact returnPiece_readers c n _ { s with nu := { s.nu with counters := counters } }
  · exact failPiece_readers c n _ _ s

theorem grantRead_readers (slot : Fin 16) (l : List (Fin 16 × Nat × Span)) (s : State) :
    SameReaders s (grantRead slot l s) := by
  induction l generalizing s with
  | nil => exact .refl s
  | cons x rest ih =>
    obtain ⟨c, i, p⟩ := x
    unfold grantRead
    dsimp only
    split
    · refine SameReaders.trans (SameReaders.trans (t := engageSlot slot (.readOf c i) p.line (.lineRead slot p.line) s)
        (.of_eq rfl) (setPieceState_readers c i .reading _)) (.of_eq (by simp))
    · exact (resolvePiece_readers c i p s).trans (ih _)

theorem TagLaw.readers {s t : State} (hs : TagLaw s) (hr : SameReaders s t) (hrqp : t.rqp = s.rqp)
    (hsync : t.ord.sync = s.ord.sync) : TagLaw t := by
  refine hs.of_pairs (fun a => ?_) (by rw [hrqp])
  cases a with
  | context c => exact hr c
  | record w => simp [pairAt, hrqp]
  | sync r => simp [pairAt, hsync]

/-- An operation that leaves the requester port, the read contexts and the Sync Tracker. -/
theorem TagLaw.of_same {s t : State} (hs : TagLaw s) (hrqp : t.rqp.tags = s.rqp.tags ∧ t.rqp.wrt = s.rqp.wrt)
    (hrdp : t.rdp.contexts = s.rdp.contexts) (hsync : t.ord.sync = s.ord.sync) : TagLaw t := by
  refine hs.of_pairs (fun a => ?_) hrqp.1
  cases a with
  | context c => simp [pairAt, hrdp]
  | record w => simp [pairAt, hrqp.2]
  | sync r => simp [pairAt, hsync]

/-! ## Held acknowledgements -/

/-- A count answers its record and frees it, or leaves its requester and tag (R144). -/
theorem countDown_tagLaw {s : State} (hs : TagLaw s) (status : HeldStatus) (w : Fin 16) : TagLaw (countDown status w s) := by
  unfold countDown
  cases hr : s.rqp.wrt.get w with
  | none => exact hs
  | some r =>
    dsimp only
    split
    · refine hs.released (a := .record w) (p := (r.requester, r.tag)) (by simp [pairAt, hr]) (fun b => ?_) rfl
      cases b with
      | context c => rfl
      | record v =>
        by_cases hv : w = v
        · subst hv; simp [pairAt, respondTaken, releaseTag, respond]
        · simp [pairAt, respondTaken, releaseTag, respond, Table.get_set_ne _ hv, Ne.symm hv]
      | sync r => rfl
    · refine hs.of_pairs (fun b => ?_) rfl
      cases b with
      | context c => rfl
      | record v =>
        by_cases hv : w = v
        · subst hv; simp [pairAt, hr]
        · simp [pairAt, Table.get_set_ne _ hv]
      | sync r => rfl

theorem countDownHeld_tagLaw {s : State} (hs : TagLaw s) (status : HeldStatus) (held : List (Fin 16)) :
    TagLaw (countDownHeld status held s) := by
  induction held generalizing s with
  | nil => exact hs
  | cons w rest ih => exact ih (countDown_tagLaw hs status w)

theorem endEntry_sync {i : Fin 32} {e : Entry} (kind : EndKind) {s : State} (he : s.lat.entries.get i = some e) :
    (endEntry i kind s).ord.sync = s.ord.sync.map (syncWithout i) := by
  unfold endEntry
  rw [he]
  dsimp only
  unfold completionEffects
  dsimp only
  cases kind <;> simp [endFailed, forgetEntry, setFailureFlags, freeEntry]

theorem endEntry_tagLaw {s : State} (hs : TagLaw s) (i : Fin 32) (kind : EndKind) : TagLaw (endEntry i kind s) := by
  cases he : s.lat.entries.get i with
  | none => simpa [endEntry, he] using hs
  | some e =>
    have hrqp := (endEntry_rqp kind he).1
    refine (countDownHeld_tagLaw hs (endHeldStatus kind) e.held).of_pairs (fun a => ?_) (by rw [hrqp])
    cases a with
    | context c => simp [pairAt]
    | record w => simp [pairAt, hrqp]
    | sync r =>
      simp only [pairAt, endEntry_sync kind he, Table.get_map, countDownHeld_frame]
      cases s.ord.sync.get r <;> rfl

/-! ## Answers and takes -/

theorem answerContext_tagLaw {s : State} (hs : TagLaw s) {c : Fin 16} {x : Context} (hx : s.rdp.contexts.get c = some x) :
    TagLaw (answerContext c x s) := by
  refine hs.released (a := .context c) (p := (x.requester, x.tag)) (by simp [pairAt, hx]) (fun b => ?_) rfl
  cases b with
  | context d =>
    by_cases hd : c = d
    · subst hd; simp [pairAt, answerContext, respondTaken, releaseTag, respond]
    · simp [pairAt, answerContext, respondTaken, releaseTag, respond, Table.get_set_ne _ hd, Ne.symm hd]
  | record w => rfl
  | sync r => rfl

theorem answerSync_tagLaw {s : State} (hs : TagLaw s) {r : Requester} {x : SyncRecord} (hx : s.ord.sync.get r = some x) :
    TagLaw (answerSync r x s) := by
  refine hs.released (a := .sync r) (p := (r, x.tag)) (by simp [pairAt, hx]) (fun b => ?_) rfl
  cases b with
  | context d => rfl
  | record w => rfl
  | sync q =>
    by_cases hq : r = q
    · subst hq; simp [pairAt, answerSync]
    · simp [pairAt, answerSync, clearFailureFlag, Table.get_set_ne _ hq, Ne.symm hq]

/-- A request that passes the legality step has a fresh tag (R138). -/
theorem judge_passes_fresh {s : State} {q : Request} (h : judge s q = .passes) : (q.requester, q.tag) ∉ s.rqp.tags := by
  unfold judge at h
  split at h
  · cases h
  · cases h
  · cases h
  · split at h
    · cases h
    · rename_i hlegal
      unfold legality at hlegal
      split at hlegal
      · cases hlegal
      · split at hlegal
        · cases hlegal
        · split at hlegal
          · cases hlegal
          · rename_i hfresh; simpa using hfresh

theorem takeRead_tagLaw {s : State} (hs : TagLaw s) {q : Request} {c : Fin 16} (hfresh : (q.requester, q.tag) ∉ s.rqp.tags)
    (hc : s.rdp.contexts.get c = none) : TagLaw (takeRead q c s) := by
  have hopened : TagLaw { holdTag q.requester q.tag s with
      rdp := { s.rdp with contexts := s.rdp.contexts.set c (some (openedContext s.rdp q)) } } := by
    refine hs.taken (a := .context c) (by simp [pairAt, hc]) hfresh (fun b => ?_) rfl
    cases b with
    | context d =>
      by_cases hd : c = d
      · subst hd; simp [pairAt, openedContext]
      · simp [pairAt, Table.get_set_ne _ hd, Ne.symm hd]
    | record w => rfl
    | sync r => rfl
  exact hopened.readers (resolveAll_readers c 0 (requestSpans q) _) (resolveAll_frame c 0 _ _).1 (by simp)

theorem takeAoc_tagLaw {s : State} (hs : TagLaw s) {q : Request} {w : Fin 16} (hfresh : (q.requester, q.tag) ∉ s.rqp.tags)
    (hw : s.rqp.wrt.get w = none) : TagLaw (takeAoc q w s) := by
  refine hs.taken (a := .record w) (by simp [pairAt, hw]) hfresh (fun b => ?_) (by simp [takeAoc, holdTag, openWrt])
  cases b with
  | context c => simp [pairAt]
  | record v =>
    by_cases hv : w = v
    · subst hv; simp [pairAt, takeAoc, holdTag, openWrt]
    · simp [pairAt, takeAoc, holdTag, openWrt, Table.get_set_ne _ hv, Ne.symm hv]
  | sync r => simp [pairAt]

theorem takeSync_tagLaw {s : State} (hs : TagLaw s) {q : Request} (hfresh : (q.requester, q.tag) ∉ s.rqp.tags) :
    TagLaw (takeSync q s) := by
  unfold takeSync
  split
  · exact hs
  · rename_i hnone
    refine hs.taken (a := .sync q.requester) (by simp [pairAt, hnone]) hfresh (fun b => ?_) rfl
    cases b with
    | context c => rfl
    | record v => rfl
    | sync r =>
      by_cases hr : q.requester = r
      · subst hr; simp [pairAt]
      · simp [pairAt, Table.get_set_ne _ hr, Ne.symm hr]

theorem takeServed_tagLaw {s t : State} (hs : TagLaw s) {q : Request} (hfresh : (q.requester, q.tag) ∉ s.rqp.tags)
    (h : takeServed q s = some t) : TagLaw t := by
  obtain ⟨-, c, hc, rfl⟩ | ⟨-, -, ⟨-, w, hw, rfl⟩ | ⟨-, rfl⟩⟩ | ⟨-, rfl⟩ := takeServed_cases h
  · exact takeRead_tagLaw hs hfresh (by simpa using Table.findLowest_some hc)
  · exact takeAoc_tagLaw hs hfresh (by simpa using Table.findLowest_some hw)
  · exact hs.of_same (by simp) (by simp) (by simp)
  · exact takeSync_tagLaw hs hfresh

/-- A head that leaves, or waits, leaves the outstanding requests. -/
theorem leaveIntake_tags (s : State) :
    (leaveIntake s).rqp.tags = s.rqp.tags ∧ (leaveIntake s).rqp.wrt = s.rqp.wrt := by
  simp [leaveIntake, acceptFromLink]

theorem TagLaw.leaves {s : State} (hs : TagLaw s) : TagLaw (leaveIntake s) :=
  hs.of_same (leaveIntake_tags s) (by simp) (by simp)

theorem takeAt_tagLaw {s : State} (hs : TagLaw s) (time : Nat) : TagLaw (takeAt time s) := by
  have haccepted : TagLaw (acceptFromLink (atTime time s)) := hs
  unfold takeAt
  dsimp only
  split
  · exact haccepted
  · rename_i q _ _
    change TagLaw (takeHead q (acceptFromLink (atTime time s)))
    obtain ⟨-, h⟩ | ⟨-, h⟩ | ⟨status, cause, -, h⟩ | ⟨-, -, h⟩ | ⟨t, hpasses, ht, h⟩ :=
      takeHead_cases q (acceptFromLink (atTime time s))
    · rw [h]; exact haccepted
    · rw [h]; exact TagLaw.leaves (s := respond q.requester q.tag .offline [] _) haccepted
    · rw [h]; exact TagLaw.leaves (s := takeRefused q status cause _) haccepted
    · rw [h]; exact haccepted.of_same (by simp) (by simp) (by simp)
    · rw [h]
      have hclosed : TagLaw (closedFor q (acceptFromLink (atTime time s))) :=
        haccepted.of_same (by simp) (by simp) (by simp)
      exact (takeServed_tagLaw hclosed (by simpa using judge_passes_fresh hpasses) ht).leaves

/-! ## Responses and deadlines -/

theorem receive_tagLaw {s : State} (hs : TagLaw s) (r : MemoryResponse) : TagLaw (receive r s) := by
  have hfree : TagLaw (freeSlot r.slot s) := hs
  obtain ⟨i, line, deadline, hslot, h⟩ | ⟨i, line, -, -, h⟩ | ⟨c, n, line, -, -, h⟩ | ⟨line, -, -, h⟩ | ⟨purpose, line, -, h⟩ | h :=
    receive_cases r s
  · rw [h]
    cases hread : readData r with
    | none =>
      rw [fetchReturned_failed hread]
      exact (endEntry_tagLaw hfree i (.lost .fetchFault)).of_same (by simp) (by simp) (by simp)
    | some data =>
      obtain ⟨counters, hcount⟩ := countCorrected_nu data.2 s
      cases he : s.lat.entries.get i with
      | none => rw [fetchReturned_free hread he, hcount]; exact hs
      | some e => rw [fetchReturned_merged hread he, hcount]; exact hs
  · rw [h]
    exact (endEntry_tagLaw (s := aheadAfterWrite i (writeDone r) (freeSlot r.slot s))
      (hfree.of_same (by simp) (by simp) (by simp)) i (if writeDone r then .completed else .lost .writeFault)).of_same
      (by simp [writeReturned]) (by simp [writeReturned]) (by simp [writeReturned])
  · rw [h, readReturned_eq]
    exact (hfree.readers (pieceReturned_readers c n r _) (by simp) (by simp)).of_same (by simp) (by simp) (by simp)
  all_goals
    rw [h]
    exact hs.of_same (by simp) (by simp) (by simp)

theorem ownerTimeout_tagLaw {s : State} (hs : TagLaw s) (owner : Owner) : TagLaw (ownerTimeout owner s) := by
  cases owner with
  | fetchOf i => exact endEntry_tagLaw hs i _
  | writeOf i =>
    exact endEntry_tagLaw (s := aheadAfterWrite i false s) (hs.of_same (by simp) (by simp) (by simp)) i _
  | readOf c n => exact hs.readers (failPiece_readers c n _ _ s) (by simp [ownerTimeout]) (by simp [ownerTimeout])
  | sweepEngine => exact hs.of_same (by simp [ownerTimeout]) (by simp [ownerTimeout]) (by simp [ownerTimeout])

theorem expireSlot_tagLaw {s : State} (hs : TagLaw s) (slot : Fin 16) : TagLaw (expireSlot slot s) := by
  obtain ⟨owner, line, sent, deadline, -, h⟩ | h := expireSlot_cases slot s
  · have horphan : TagLaw (orphanSlot slot owner line sent deadline s) := hs
    have htold : TagLaw (toldOrphan slot owner line sent deadline s) :=
      (ownerTimeout_tagLaw horphan owner).of_same (by simp [toldOrphan]) (by simp [toldOrphan]) (by simp [toldOrphan])
    rw [h]
    split
    all_goals exact htold.of_same (by simp) (by simp) (by simp)
  · rw [h]; exact hs

theorem grantTo_tagLaw {s : State} (hs : TagLaw s) (slot : Fin 16) (cls : ArbiterClass) : TagLaw (grantTo slot cls s) := by
  cases cls with
  | read =>
    exact hs.readers (t := grantTo slot .read s) (grantRead_readers slot (readCandidates s) s) (by simp)
      (congrArg OrderUnit.sync (grantTo_frame slot .read s).2.2.1)
  | write => exact hs.of_same (by simp [grantTo]) (by simp [grantTo]) (by simp [grantTo])
  | sweep => exact hs.of_same (by simp [grantTo]) (by simp [grantTo]) (by simp [grantTo])

/-! ## The acts -/

/-- With nothing outstanding and no tag in use the law holds. -/
theorem TagLaw.of_empty {t : State} (htags : t.rqp.tags = []) (hpairs : ∀ a, pairAt t a = none) : TagLaw t := by
  rw [tagLaw_iff]
  simp [htags, hpairs]

theorem warmReset_tagLaw (s : State) : TagLaw (warmReset s) := by
  have hcleared : ∀ u : State, TagLaw (clearTraffic u) := fun u => .of_empty rfl fun a => by
    cases a <;> simp [pairAt, clearTraffic, Rdp.reset]
  unfold warmReset
  dsimp only
  split
  · exact (hcleared (abortResponses (abortLong s))).of_same (by simp) (by simp) (by simp)
  · exact hcleared _

theorem tagLaw_kept : KeptByActs TagLaw where
  noAct _ _ _ _ _ _ hs := hs
  powerOn held s := .of_empty rfl fun a => by
    cases a <;> simp [pairAt, powerOnState, State.reset, Rdp.reset, Rqp.reset, OrderUnit.reset]
  flushEnd s hs := hs.of_same (by simp) (by simp) (by simp)
  event c act s hc hs := by
    cases c <;> cases hc
    case requestArrival q =>
      refine hs.of_same ?_ (by simp) (by simp)
      unfold arrive
      dsimp only
      split <;> simp [acceptFromLink]
    case take time => exact takeAt_tagLaw hs time
    case grant time =>
      dsimp only
      have hs' : TagLaw (atTime time s) := hs
      obtain h | ⟨slot, cls, -, -, h⟩ := grantOne_cases (atTime time s)
      · rw [h]; exact hs'
      · rw [h]
        exact (grantTo_tagLaw hs' slot cls).of_same (by simp) (by simp) (by simp)
    case memoryResponse time r => exact receive_tagLaw (s := atTime time s) hs r
    case slotDeadline slot => exact expireSlot_tagLaw hs slot
    case suppressionDiscard =>
      obtain ⟨-, h⟩ | ⟨i, rest, u, -, rfl, ⟨-, h⟩ | ⟨b, -, h⟩⟩ := discardNext_cases s
      · rw [h]; exact hs
      · rw [h]; exact hs
      · rw [h]
        exact (endEntry_tagLaw (s := unqueue i { s with ord := { s.ord with discards := rest } }) hs i
          (.lost (.suppressed b.rule))).of_same (by simp [discardEntry]) (by simp) (by simp [discardEntry])
    case readResponse =>
      obtain ⟨-, h⟩ | ⟨c, rest, u, -, rfl, ⟨-, h⟩ | ⟨x, hx, h⟩⟩ := sendReadResponse_cases s
      · rw [h]; exact hs
      · rw [h]; exact hs
      · rw [h]
        exact (answerContext_tagLaw (s := { s with rdp := { s.rdp with ready := rest } }) hs hx).of_same
          (by simp) (by simp) (by simp)
    case syncResponse =>
      obtain ⟨-, h⟩ | ⟨r, rest, u, -, rfl, ⟨-, h⟩ | ⟨x, hx, h⟩⟩ := sendSyncResponse_cases s
      · rw [h]; exact hs
      · rw [h]; exact hs
      · rw [h]
        exact (answerSync_tagLaw (s := { s with ord := { s.ord with syncReady := rest } }) hs hx).of_same
          (by simp) (by simp) (by simp)
    all_goals exact hs.of_same (by simp) (by simp) (by simp)
  frame c act s hc hs := by
    cases c <;> cases hc
    case resetBridge => exact warmReset_tagLaw s
    case setRule =>
      refine hs.of_same (by simp) (by simp) ?_
      unfold setRule
      split
      · split <;> rfl
      · rfl
    case clearRule =>
      refine hs.of_same (by simp) (by simp) ?_
      unfold clearRule
      split
      · split <;> rfl
      · rfl
    all_goals exact hs.of_same (by simp) (by simp) (by simp)

/-- Settles O52: a take finds a free place and, by the legality step, a fresh tag; each answer takes a request's place and its tag away
together. -/
theorem tagsInUseAreTheOutstandingRequests : Obligations.TagsInUseAreTheOutstandingRequests := fun _ _ hs h =>
  tagLaw_kept.step hs h

end Sys2Proof.Machine
end

section
/-! The starvation mark (R27): which acts judge it, what leaves its condition as it was, and the statement about it. -/

namespace Sys2Proof.Machine

/-! ## What the condition rests on -/

/-- Two records that the Issuer cannot tell apart: one line, one barrier, and both byte sets full or neither. -/
def SameToIssuer (a b : Option Entry) : Prop :=
  a.map (fun e => (e.line, e.barrier, cellsFull e.cells)) = b.map (fun e => (e.line, e.barrier, cellsFull e.cells))

theorem SameToIssuer.refl (a : Option Entry) : SameToIssuer a a := rfl

/-- What the Issuer asks of a record is the same of two that it cannot tell apart. -/
theorem SameToIssuer.entryIs {a b : Option Entry} (h : SameToIssuer a b) {p q : Entry → Bool}
    (hp : ∀ x y, x.line = y.line → x.barrier = y.barrier → cellsFull x.cells = cellsFull y.cells → p x = q y) :
    entryIs p a = entryIs q b := by
  unfold SameToIssuer at h
  cases a <;> cases b <;> simp at h
  · rfl
  · simpa [Machine.entryIs] using hp _ _ h.1 h.2.1 h.2.2

/-- The condition of the starvation mark rests on the Issue Queue, on what the Issuer sees of the entries, on the claims, on the lines
that are uninitialised and on the length of the Ahead List. -/
theorem starving_congr {s t : State} (hqueue : t.lat.issueQueue = s.lat.issueQueue)
    (hentries : ∀ i, SameToIssuer (t.lat.entries.get i) (s.lat.entries.get i))
    (hclaims : ∀ line, claimed t.mp line = claimed s.mp line)
    (hpattern : ∀ line, (uninitialisedPattern t.rsw line).isSome = (uninitialisedPattern s.rsw line).isSome)
    (hahead : t.rsw.ahead.length = s.rsw.ahead.length) : starving t = starving s := by
  have holder : ∀ i line, olderHasLine t.lat i line = olderHasLine s.lat i line := by
    intro i line
    unfold olderHasLine
    rw [hqueue]
    congr 1
    funext j
    exact (hentries j).entryIs fun x y hline _ _ => by rw [hline]
  have hmay : ∀ i, entryIs (fun e => mayIssue t i e && fillFor t e == .pattern) (t.lat.entries.get i) =
      entryIs (fun e => mayIssue s i e && fillFor s e == .pattern) (s.lat.entries.get i) := by
    intro i
    refine (hentries i).entryIs fun x y hline hbarrier hfull => ?_
    simp only [mayIssue, fillFor, barrierOpen, holder, hclaims, hpattern, hline, hbarrier, hfull]
  unfold starving aheadHasRoom
  simp only [hmay, hqueue, hahead]

theorem starving_of_same {s t : State} (hlat : t.lat = s.lat) (hslots : t.mp.slots = s.mp.slots)
    (hregions : t.rsw.regions = s.rsw.regions) (hahead : t.rsw.ahead = s.rsw.ahead) : starving t = starving s := by
  refine starving_congr (by rw [hlat]) (fun i => by rw [hlat]; rfl) (fun line => by unfold claimed; rw [hslots])
    (fun line => ?_) (by rw [hahead])
  unfold uninitialisedPattern regionOf aheadOf
  rw [hregions, hahead]

theorem StarvationLaw.of_same {s t : State} (hs : StarvationLaw s) (hmark : t.starvation = s.starvation)
    (hlat : t.lat = s.lat) (hslots : t.mp.slots = s.mp.slots) (hrsw : t.rsw = s.rsw) : StarvationLaw t := by
  unfold StarvationLaw
  rw [hmark, starving_of_same hlat hslots (by rw [hrsw]) (by rw [hrsw])]
  exact hs

/-! ## The judgements -/

theorem judgeStarvation_law (s : State) : StarvationLaw (judgeStarvation s) := rfl

theorem settleSweep_law (s : State) : StarvationLaw (settleSweep s) := judgeStarvation_law _

theorem afterEntryEnd_law (s : State) : StarvationLaw (afterEntryEnd s) := settleSweep_law _

/-! ## The acts that judge no mark -/

theorem claimed_eq_of_within {m m' : Mp} (h : ClaimsWithin m m') (h' : ClaimsWithin m' m) (line : Nat) :
    claimed m' line = claimed m line := by
  rw [Bool.eq_iff_iff, claimed_iff, claimed_iff]
  exact ⟨fun ⟨i, hi⟩ => ⟨i, h i line hi⟩, fun ⟨i, hi⟩ => ⟨i, h' i line hi⟩⟩

theorem slotClaim_slotSent (x : Slot) : slotClaim (slotSent x) = slotClaim x := by cases x <;> rfl

theorem acceptHead_claims (s : State) (i : Fin 16) :
    slotClaim ((acceptHead s).mp.slots.get i) = slotClaim (s.mp.slots.get i) := by
  unfold acceptHead
  split
  · rfl
  · rename_i m rest _
    by_cases hi : memoryRequestSlot m = i
    · subst hi
      simp [slotClaim_slotSent]
    · simp [Table.get_set_ne _ hi]

/-- A fill completes bytes outside the byte set, which stays as it was (R30, R33). -/
theorem cellsFull_fillCells (cells : LineCells) (source : Fin 64 → Byte) :
    cellsFull (fillCells cells source) = cellsFull cells := by
  unfold cellsFull
  rw [Bool.eq_iff_iff, Table.all_iff, Table.all_iff]
  refine forall_congr' fun k => ?_
  rw [fillCells, Table.get_ofFn]
  split
  · exact Iff.rfl
  · rename_i h
    rw [Bool.eq_false_iff.2 h]
    rfl

theorem fetchToWrite_starving {slot : Fin 16} {i : Fin 32} {line deadline : Nat} {e : Entry} {s : State}
    (hslot : s.mp.slots.get slot = .busy (.fetchOf i) line true deadline) (he : s.lat.entries.get i = some e)
    (memory : Table Byte 64) : starving (fetchToWrite slot i line e memory s) = starving s := by
  have hclaim : slotClaim (s.mp.slots.get slot) = some line := by rw [hslot]; rfl
  refine starving_congr rfl (fun j => ?_) (fun l => ?_) (fun l => rfl) rfl
  · by_cases hj : i = j
    · subst hj
      simp [fetchToWrite, engageSlot, SameToIssuer, he, cellsFull_fillCells]
    · simp [fetchToWrite, engageSlot, SameToIssuer, Table.get_set_ne _ hj]
  · refine claimed_eq_of_within (fetchToWrite_claimsWithin hclaim i e memory) (fun j l' hj => ?_) l
    by_cases hji : slot = j
    · subst hji
      rw [hclaim] at hj
      cases hj
      simp [fetchToWrite, engageSlot, slotClaim]
    · simpa [fetchToWrite, engageSlot, Table.get_set_ne _ hji] using hj

theorem receive_starvationLaw {s : State} (hs : StarvationLaw s) (r : MemoryResponse) : StarvationLaw (receive r s) := by
  obtain ⟨i, line, deadline, hslot, h⟩ | ⟨i, line, -, -, h⟩ | ⟨c, n, line, -, -, h⟩ | ⟨line, -, -, h⟩ | ⟨purpose, line, -, h⟩ | h :=
    receive_cases r s
  · rw [h]
    cases hread : readData r with
    | none => rw [fetchReturned_failed hread]; exact afterEntryEnd_law _
    | some data =>
      obtain ⟨counters, hcount⟩ := countCorrected_nu data.2 s
      cases he : s.lat.entries.get i with
      | none => rw [fetchReturned_free hread he, hcount]; exact hs
      | some e =>
        rw [fetchReturned_merged hread he, hcount]
        unfold StarvationLaw
        rw [fetchToWrite_starving (s := { s with nu := { s.nu with counters := counters } }) hslot he]
        exact hs
  · rw [h]; exact afterEntryEnd_law _
  · rw [h, readReturned_eq]; exact settleSweep_law _
  · rw [h]; exact settleSweep_law _
  · rw [h]; exact settleSweep_law _
  · rw [h]; exact hs

theorem expireSlot_starvationLaw {s : State} (hs : StarvationLaw s) (slot : Fin 16) : StarvationLaw (expireSlot slot s) := by
  obtain ⟨owner, line, sent, deadline, -, h⟩ | h := expireSlot_cases slot s
  · rw [h]
    split
    · exact afterEntryEnd_law _
    · exact settleSweep_law _
  · rw [h]; exact hs

/-! ## A definition with mode READY -/

/-- The range of a definition that is allowed holds no line of a present region (R93). -/
theorem rangeAllowed_disjoint {u : Rsw} {base size : Nat} (h : rangeAllowed u base size = true) {line : Nat}
    (hl : base ≤ line ∧ line < base + size) (j : Fin 8) : regionHolds line (u.regions.get j) = false := by
  unfold rangeAllowed at h
  rw [Bool.and_eq_true, Table.all_iff] at h
  have hj := h.2 j
  unfold overlapsRegion at hj
  unfold regionHolds
  cases hinfo : (u.regions.get j).info with
  | none => rfl
  | some i =>
    simp only [hinfo, Option.any_some, Bool.not_eq_true', decide_eq_false_iff_not] at hj ⊢
    omega

/-- A definition with mode READY leaves every line as initialised as it was (R93, R98). -/
theorem uninitialisedPattern_putReady {s : State} {k : Fin 8} {info : RegionInfo} (hk : s.rsw.regions.get k = .absent)
    (hrange : rangeAllowed s.rsw info.base info.size = true) (line : Nat) :
    uninitialisedPattern (putRegion k (.ready info) s).rsw line = uninitialisedPattern s.rsw line := by
  have hget : ∀ j, j ≠ k → (putRegion k (.ready info) s).rsw.regions.get j = s.rsw.regions.get j := fun j hj => by
    simp [putRegion, Table.get_set_ne _ (Ne.symm hj)]
  have hself : (putRegion k (.ready info) s).rsw.regions.get k = .ready info := by simp [putRegion]
  by_cases hl : info.base ≤ line ∧ line < info.base + info.size
  · have hnone : regionOf s.rsw line = none :=
      List.find?_eq_none.2 fun j _ => by simp [rangeAllowed_disjoint hrange hl j]
    have hnew : regionOf (putRegion k (.ready info) s).rsw line = some k := by
      cases hj : regionOf (putRegion k (.ready info) s).rsw line with
      | none =>
        have := Table.findLowest_none hj k
        rw [hself] at this
        simp [regionHolds, Region.info, hl] at this
      | some j =>
        by_cases hjk : j = k
        · rw [hjk]
        · have := Table.findLowest_some hj
          rw [hget j hjk, rangeAllowed_disjoint hrange hl j] at this
          cases this
    unfold uninitialisedPattern
    rw [hnone, hnew]
    dsimp only
    rw [hself]
  · have hholds : ∀ j, regionHolds line ((putRegion k (.ready info) s).rsw.regions.get j) =
        regionHolds line (s.rsw.regions.get j) := by
      intro j
      by_cases hj : j = k
      · subst hj
        rw [hself, hk]
        simpa [regionHolds, Region.info] using hl
      · rw [hget j hj]
    have hsame : regionOf (putRegion k (.ready info) s).rsw line = regionOf s.rsw line := by
      unfold regionOf Table.findLowest
      simp only [hholds]
    unfold uninitialisedPattern
    rw [hsame]
    cases hj : regionOf s.rsw line with
    | none => rfl
    | some j =>
      have hjk : j ≠ k := fun h => by
        have := Table.findLowest_some hj
        rw [h, hk] at this
        cases this
      dsimp only
      rw [hget j hjk]
      rfl

/-! ## The law -/

/-- An empty Issue Queue starves nobody. -/
theorem starvationLaw_of_empty {t : State} (hmark : t.starvation = false) (hqueue : t.lat.issueQueue = []) :
    StarvationLaw t := by
  simp [StarvationLaw, starving, hmark, hqueue]

theorem comeOnline_law (s : State) : StarvationLaw (comeOnline s) := settleSweep_law _

theorem starvationLaw_event {c : Instr} {act : State → State} {s : State} (hc : eventAct c = some act) (hs : StarvationLaw s) :
    StarvationLaw (act s) := by
  cases c <;> cases hc
  case requestArrival q =>
    unfold arrive
    dsimp only
    split
    · exact judgeStarvation_law _
    · exact hs
  case take time =>
    unfold takeAt
    dsimp only
    split
    · exact hs
    · exact judgeStarvation_law _
  case grant time =>
    dsimp only
    obtain h | ⟨slot, cls, -, -, h⟩ := grantOne_cases (atTime time s)
    · rw [h]; exact hs
    · rw [h]; exact settleSweep_law _
  case memoryLinkAccept =>
    unfold StarvationLaw
    rw [acceptHead_frame s |>.2.2.1, starving_congr (s := s) (by simp) (fun i => by simp [SameToIssuer])
      (fun line => by
        rw [Bool.eq_iff_iff, claimed_iff, claimed_iff]
        simp only [acceptHead_claims])
      (fun line => by simp) (by simp)]
    exact hs
  case memoryResponse time r => exact receive_starvationLaw (s := atTime time s) hs r
  case slotDeadline slot => exact expireSlot_starvationLaw hs slot
  case gatherDeadline i =>
    unfold gatherExpires
    split
    · exact judgeStarvation_law _
    · exact hs
  case pacingEnd =>
    unfold pacingEnds
    split
    · exact settleSweep_law _
    all_goals exact hs
  case suppressionDiscard =>
    obtain ⟨-, h⟩ | ⟨i, rest, u, -, rfl, ⟨-, h⟩ | ⟨b, -, h⟩⟩ := discardNext_cases s
    · rw [h]; exact hs
    · rw [h]; exact hs
    · rw [h]; exact judgeStarvation_law _
  case readResponse =>
    obtain ⟨-, h⟩ | ⟨c, rest, u, -, rfl, ⟨-, h⟩ | ⟨x, -, h⟩⟩ := sendReadResponse_cases s
    · rw [h]; exact hs
    · rw [h]; exact hs
    · rw [h]; exact judgeStarvation_law _
  all_goals exact hs.of_same (by simp) (by simp) (by simp) (by simp)

theorem starvationLaw_frame {c : Instr} {act : State → State} {s : State} (hc : frameAct c = some act) (hs : StarvationLaw s) :
    StarvationLaw (act s) := by
  cases c <;> cases hc
  case setItem code value =>
    unfold setItem
    split
    · rename_i item _
      split
      · refine StarvationLaw.of_same (s := giveItem item value s) ?_ rfl rfl rfl rfl
        cases item
        case sweepUrgentLevel => exact settleSweep_law (withUrgentLevel value s)
        all_goals exact hs
      · exact hs
    · exact hs
  case defineRegion index base size mode pattern =>
    obtain h | ⟨k, sweep, -, -, habsent, hrange, put, rfl, h⟩ := defineRegion_cases index base size mode pattern s
    · rw [h]; exact hs
    · rw [h]
      cases sweep
      · have hpattern := uninitialisedPattern_putReady
          (info := ⟨base.toNat, size.toNat * Config.regionUnit, pattern, 0#16⟩) habsent hrange
        have hsame : starving (putRegion k (definedRegion base.toNat (size.toNat * Config.regionUnit) false pattern) s) =
            starving s :=
          starving_congr rfl (fun i => rfl) (fun line => rfl) (fun line => congrArg Option.isSome (hpattern line)) rfl
        exact Eq.trans hs hsame.symm
      · exact settleSweep_law _
  case retireRegion index =>
    obtain ⟨status, h⟩ | ⟨k, -, -, h⟩ := retireRegion_cases index s
    · rw [h]; exact hs
    · rw [h]
      refine StarvationLaw.of_same (s := removeRegion k s) ?_ rfl rfl rfl rfl
      unfold removeRegion
      split
      · exact hs
      · exact judgeStarvation_law _
  case goOnline =>
    unfold goOnline
    split
    · exact comeOnline_law _
    · exact hs
  case quiesce =>
    unfold quiesce
    split
    · split
      · exact judgeStarvation_law _
      · exact hs
    · exact hs
  case resume =>
    unfold resume
    split
    · exact comeOnline_law _
    · exact hs
  case flush =>
    unfold flush
    split
    · split
      · exact judgeStarvation_law _
      · exact hs
    · exact hs
  case resetBridge =>
    refine StarvationLaw.of_same (s := warmReset s) ?_ rfl rfl rfl rfl
    unfold warmReset
    dsimp only
    split
    · exact starvationLaw_of_empty (by simp [clearTraffic]) (by simp [clearTraffic, Lat.reset])
    · exact starvationLaw_of_empty rfl rfl
  case reclaimSlots =>
    unfold reclaimSlots
    split
    · exact hs
    · exact judgeStarvation_law (reclaim s)
  all_goals exact hs.of_same (by simp) (by simp) (by simp) (by simp)

theorem starvationLaw_kept : KeptByActs StarvationLaw where
  noAct _ _ _ _ _ _ hs := hs
  powerOn held s := starvationLaw_of_empty rfl rfl
  flushEnd s hs := hs.of_same (by simp) (by simp) (by simp) (by simp)
  event _ _ _ hc hs := starvationLaw_event hc hs
  frame _ _ _ hc hs := starvationLaw_frame hc hs

/-- Settles O54: every act that changes what the condition rests on judges the mark last, except those after which the Issuer sees what
it saw. -/
theorem starvationMarkFollowsItsCondition : Obligations.StarvationMarkFollowsItsCondition := fun _ _ _ hs h =>
  starvationLaw_kept.step hs h

end Sys2Proof.Machine
end

section
/-! The modes (R148 to R156): what each act makes of Mode Control and of what is pending, the law of the modes, and the transitions of
Table 8-1. -/

namespace Sys2Proof.Machine

/-! ## What is pending -/

theorem nothingPending_iff (s : State) : nothingPending s = true ↔ DrainCondition s ∧ s.rsw.engine = .idle := by
  unfold nothingPending DrainCondition
  simp only [Bool.and_eq_true, Table.all_iff, Option.isNone_iff_eq_none, Bool.not_eq_true', beq_iff_eq]
  constructor
  · rintro ⟨⟨⟨⟨⟨hl, hc⟩, hw⟩, hr⟩, hm⟩, he⟩
    exact ⟨⟨hl, hc, hw, hr, hm, by rw [he]; rfl⟩, he⟩
  · rintro ⟨⟨hl, hc, hw, hr, hm, -⟩, he⟩
    exact ⟨⟨⟨⟨⟨hl, hc⟩, hw⟩, hr⟩, hm⟩, he⟩

/-- The same entries, contexts, WRT records and SYNCs are pending, the same slots BUSY, and the engine is as it was. -/
structure SameWork (s t : State) : Prop where
  entries : ∀ i, t.lat.entries.get i = none ↔ s.lat.entries.get i = none
  contexts : ∀ c, t.rdp.contexts.get c = none ↔ s.rdp.contexts.get c = none
  records : ∀ w, t.rqp.wrt.get w = none ↔ s.rqp.wrt.get w = none
  syncs : ∀ r, t.ord.sync.get r = none ↔ s.ord.sync.get r = none
  slots : ∀ i, slotBusy (t.mp.slots.get i) = slotBusy (s.mp.slots.get i)
  engine : t.rsw.engine = s.rsw.engine

theorem SameWork.of_eq {s t : State} (hlat : t.lat = s.lat) (hrdp : t.rdp.contexts = s.rdp.contexts)
    (hwrt : t.rqp.wrt = s.rqp.wrt) (hsync : t.ord.sync = s.ord.sync) (hmp : t.mp.slots = s.mp.slots)
    (he : t.rsw.engine = s.rsw.engine) : SameWork s t := by
  refine ⟨fun i => ?_, fun c => ?_, fun w => ?_, fun r => ?_, fun i => ?_, he⟩
  · rw [hlat]
  · rw [hrdp]
  · rw [hwrt]
  · rw [hsync]
  · rw [hmp]

theorem SameWork.refl (s : State) : SameWork s s := .of_eq rfl rfl rfl rfl rfl rfl

theorem SameWork.trans {s t u : State} (h : SameWork s t) (h' : SameWork t u) : SameWork s u :=
  ⟨fun i => (h'.entries i).trans (h.entries i), fun c => (h'.contexts c).trans (h.contexts c),
    fun w => (h'.records w).trans (h.records w), fun r => (h'.syncs r).trans (h.syncs r),
    fun i => (h'.slots i).trans (h.slots i), h'.engine.trans h.engine⟩

theorem SameWork.drained {s t : State} (h : SameWork s t) : DrainCondition t ↔ DrainCondition s := by
  unfold DrainCondition
  simp only [h.entries, h.contexts, h.records, h.syncs, h.slots, h.engine]

/-! ## The law of the modes, read by mode -/

theorem modeLaw_online {t : State} (hmode : t.mc.mode = .online) (hrun : t.mc.running ≠ .quiesce) : ModeLaw t := by
  refine ⟨fun h => ?_, fun h => ?_, ⟨fun h => ?_, fun h => absurd h hrun⟩, fun h => ?_, fun _ => hmode⟩
  all_goals
    rw [hmode] at h
    cases h

theorem modeLaw_rests {t : State} (hmode : atRest t.mc.mode = true) (hrun : t.mc.running = .none)
    (hwork : DrainCondition t) (he : t.rsw.engine = .idle) : ModeLaw t := by
  have hdraining : t.mc.mode ≠ .draining := fun h => by rw [h] at hmode; cases hmode
  refine ⟨fun _ => (nothingPending_iff t).2 ⟨hwork, he⟩, fun h => absurd h hdraining, ⟨fun h => absurd h hdraining, fun h => ?_⟩,
    fun h => absurd h hdraining, fun h => ?_⟩
  all_goals
    rw [hrun] at h
    cases h

theorem modeLaw_drains {t : State} (hmode : t.mc.mode = .draining) (hrun : t.mc.running = .quiesce)
    (he : engineDrains t.rsw.engine = true) (hwork : ¬ DrainCondition t) : ModeLaw t := by
  refine ⟨fun h => ?_, fun _ => he, ⟨fun _ => hrun, fun _ => hmode⟩, fun _ => hwork, fun h => ?_⟩
  · rw [hmode] at h; cases h
  · rw [hrun] at h; cases h

theorem ModeLaw.same_work {s t : State} (hs : ModeLaw s) (hmc : t.mc = s.mc) (h : SameWork s t) : ModeLaw t := by
  obtain ⟨hrest, hengine, hquiesce, hdrain, hflush⟩ := hs
  unfold ModeLaw
  rw [hmc, h.engine, h.drained, nothingPending_iff, h.drained, h.engine, ← nothingPending_iff]
  exact ⟨hrest, hengine, hquiesce, hdrain, hflush⟩

/-- Nothing is pending, and no long command runs, in a mode at rest. -/
theorem ModeLaw.rests {s : State} (hs : ModeLaw s) (h : atRest s.mc.mode = true) :
    DrainCondition s ∧ s.rsw.engine = .idle ∧ s.mc.running = .none := by
  obtain ⟨hrest, -, hquiesce, -, hflush⟩ := hs
  obtain ⟨hwork, he⟩ := (nothingPending_iff s).1 (hrest h)
  refine ⟨hwork, he, ?_⟩
  cases hrun : s.mc.running with
  | none => rfl
  | quiesce =>
    rw [hquiesce.2 hrun] at h
    cases h
  | flush waitSet losses =>
    rw [hflush (by rw [hrun]; rfl)] at h
    cases h

theorem ModeLaw.drains {s : State} (hs : ModeLaw s) (h : s.mc.mode = .draining) :
    s.mc.running = .quiesce ∧ engineDrains s.rsw.engine = true ∧ ¬ DrainCondition s :=
  ⟨hs.2.2.1.1 h, hs.2.1 h, hs.2.2.2.1 h⟩

theorem ModeLaw.online {s : State} (hs : ModeLaw s) (h : s.mc.mode = .online) : s.mc.running ≠ .quiesce := fun hrun => by
  have := hs.2.2.1.2 hrun
  rw [h] at this
  cases this

theorem mode_cases (m : Mode) : m = .online ∨ m = .draining ∨ atRest m = true := by cases m <;> simp [atRest]

/-- Outside ONLINE the engine is IDLE or WRITING (R111). -/
theorem ModeLaw.engine {s : State} (hs : ModeLaw s) (h : s.mc.mode ≠ .online) : engineDrains s.rsw.engine = true := by
  obtain hm | hm | hm := mode_cases s.mc.mode
  · exact absurd hm h
  · exact (hs.drains hm).2.1
  · rw [(hs.rests hm).2.1]; rfl

/-! ## Operations outside ONLINE -/

theorem judge_not_online {s : State} (h : s.mc.mode ≠ .online) (q : Request) : judge s q ≠ .passes := by
  unfold judge
  split
  · exact Verdict.noConfusion
  · exact Verdict.noConfusion
  · exact Verdict.noConfusion
  · rename_i hm; exact absurd hm h

theorem judgeHead_not_online {s : State} (h : s.mc.mode ≠ .online) : judgeHead s = s := by
  obtain hsame | ⟨q, rest, -, hpasses, -⟩ := judgeHead_cases s
  · exact hsame
  · exact absurd hpasses (judge_not_online h q)

theorem idle_of_drains {e : Engine} (h : engineDrains e = true) (hw : engineWrites e = false) : e = .idle := by
  cases e with
  | idle => rfl
  | writing k line => cases hw
  | pacing u => cases h
  | ready k line => cases h
  | blocked k line => cases h

theorem engineDrains_not_pacing {e : Engine} (h : engineDrains e = true) (u : Nat) : e ≠ .pacing u := fun he => by
  rw [he] at h; cases h

theorem settleSweep_of_drains {s : State} (h : engineDrains s.rsw.engine = true) : settleSweep s = judgeStarvation s :=
  settleSweep_of_not_pacing fun u => engineDrains_not_pacing h u

theorem claimEnded_of_drains {s : State} (h : engineDrains s.rsw.engine = true) (line : Nat) : claimEnded line s = s := by
  unfold claimEnded
  split
  · rename_i he; rw [he] at h; cases h
  all_goals rfl

theorem claimBegan_of_drains {s : State} (h : engineDrains s.rsw.engine = true) (line : Nat) : claimBegan line s = s := by
  unfold claimBegan
  split
  · rename_i he; rw [he] at h; cases h
  all_goals rfl

theorem takeHead_not_online {s : State} (h : s.mc.mode ≠ .online) (q : Request) :
    takeHead q s = s ∨ takeHead q s = leaveIntake (respond q.requester q.tag .offline [] s) := by
  obtain ⟨-, h'⟩ | ⟨-, h'⟩ | ⟨status, cause, hj, -⟩ | ⟨hj, -, -⟩ | ⟨t, hj, -, -⟩ := takeHead_cases q s
  · exact .inl h'
  · exact .inr h'
  · unfold judge at hj
    split at hj
    · cases hj
    · cases hj
    · cases hj
    · rename_i hm; exact absurd hm h
  · exact absurd hj (judge_not_online h q)
  · exact absurd hj (judge_not_online h q)

/-- Outside ONLINE a TAKE takes nothing: the Intake Queue and the responses alone can change (R137). -/
theorem takeAt_not_online {s : State} (h : s.mc.mode ≠ .online) (time : Nat) :
    (takeAt time s).lat = s.lat ∧ (takeAt time s).rdp = s.rdp ∧ (takeAt time s).rqp.wrt = s.rqp.wrt ∧
      (takeAt time s).ord = s.ord := by
  unfold takeAt
  dsimp only
  split
  · exact ⟨rfl, rfl, rfl, rfl⟩
  · rename_i q _ _
    have hmode : (acceptFromLink (atTime time s)).mc.mode ≠ .online := h
    have hjudge : ∀ u : State, u.mc = s.mc → (leaveIntake u).lat = u.lat := by
      intro u hu
      unfold leaveIntake
      rw [judgeHead_not_online]
      · rfl
      · change u.mc.mode ≠ .online
        rw [hu]
        exact h
    obtain h' | h' := takeHead_not_online hmode q
    · simp only [judgeStarvation, h']
      exact ⟨rfl, rfl, rfl, rfl⟩
    · simp only [judgeStarvation, h']
      refine ⟨hjudge _ rfl, by simp, ?_, by simp⟩
      rw [(leaveIntake_tags _).2]
      rfl

theorem closeIn_isNone (cause : CloseCause) (i j : Fin 32) (l : Lat) :
    (closeIn cause i l).entries.get j = none ↔ l.entries.get j = none := by
  obtain h | ⟨-, e, n, he, -, h⟩ := closeIn_get cause i j l
  · rw [h]
  · simp [he, h]

/-! ## The end of an entry and Mode Control -/

theorem endEntry_mc {i : Fin 32} {e : Entry} (kind : EndKind) {s : State} (he : s.lat.entries.get i = some e) :
    (endEntry i kind s).mc = { s.mc with running := runningWithout i (endFailed kind) s.mc.running } := by
  unfold endEntry
  rw [he]
  dsimp only
  unfold completionEffects
  dsimp only
  cases kind <;> simp [endFailed, forgetEntry, setFailureFlags, freeEntry]

theorem endEntry_mode (i : Fin 32) (kind : EndKind) (s : State) : (endEntry i kind s).mc.mode = s.mc.mode := by
  cases he : s.lat.entries.get i with
  | none => simp [endEntry, he]
  | some e => rw [endEntry_mc kind he]

theorem endEntry_quiesce (i : Fin 32) (kind : EndKind) {s : State} (h : s.mc.running = .quiesce) :
    (endEntry i kind s).mc = s.mc := by
  cases he : s.lat.entries.get i with
  | none => simp [endEntry, he]
  | some e =>
    rw [endEntry_mc kind he, h]
    change ({ s.mc with running := .quiesce } : Mc) = s.mc
    rw [← h]

theorem endEntry_not_quiesce (i : Fin 32) (kind : EndKind) {s : State} (h : s.mc.running ≠ .quiesce) :
    (endEntry i kind s).mc.running ≠ .quiesce := by
  cases he : s.lat.entries.get i with
  | none => simpa [endEntry, he] using h
  | some e =>
    rw [endEntry_mc kind he]
    cases hr : s.mc.running <;> simp [runningWithout] at h ⊢
    exact h hr

/-! ## The drain test -/

theorem testDrain_not_draining {s : State} (h : s.mc.mode ≠ .draining) : testDrain s = s := by
  obtain hsame | ⟨hm, -, -⟩ := testDrain_cases s
  · exact hsame
  · exact absurd hm h

theorem testDrain_drained {s : State} (h : s.mc.mode = .draining) (hd : DrainCondition s) :
    testDrain s = endLong .quiesce .done { s with mc := { s.mc with mode := .quiesced } } := by
  simp [testDrain, h, (drained_iff s).2 hd]

theorem testDrain_not_drained {s : State} (hd : ¬ DrainCondition s) : testDrain s = s := by
  obtain hsame | ⟨-, h, -⟩ := testDrain_cases s
  · exact hsame
  · exact absurd ((drained_iff s).1 h) hd

theorem testDrain_mode (s : State) :
    (testDrain s).mc.mode = s.mc.mode ∨ (s.mc.mode = .draining ∧ (testDrain s).mc.mode = .quiesced) := by
  obtain h | ⟨hm, -, h⟩ := testDrain_cases s
  · exact .inl (by rw [h])
  · exact .inr ⟨hm, by rw [h]; rfl⟩

/-- What an event in DRAINING comes to: a state `u` with Mode Control as it was, on which the drain was tested last, or a state with
no less work than before (R153). -/
inductive DrainStep (s : State) : State → Prop where
  | tested (u : State) (mark : Bool) : u.mc = s.mc → engineDrains u.rsw.engine = true →
      Posted [0, 1, 2, 3, 4, 5, 6, 7, 8, 9] s.nu u.nu → DrainStep s { testDrain u with starvation := mark }
  | goesOn (t : State) : t.mc = s.mc → t.rsw.engine = s.rsw.engine → (DrainCondition t → DrainCondition s) →
      Posted [0, 1, 2, 3, 4, 5, 6, 7, 8, 9] s.nu t.nu → DrainStep s t

theorem DrainStep.same {s t : State} (hmc : t.mc = s.mc) (h : SameWork s t)
    (hnu : Posted [0, 1, 2, 3, 4, 5, 6, 7, 8, 9] s.nu t.nu) : DrainStep s t :=
  .goesOn t hmc h.engine h.drained.1 hnu

/-- The drain tested on `u`, with the judgements of the sweep that follow. -/
theorem DrainStep.settled {s u : State} (hmc : u.mc = s.mc) (he : engineDrains u.rsw.engine = true)
    (hnu : Posted [0, 1, 2, 3, 4, 5, 6, 7, 8, 9] s.nu u.nu) : DrainStep s (settleSweep (testDrain u)) := by
  have he' : engineDrains (testDrain u).rsw.engine = true := by simpa using he
  rw [settleSweep_of_drains he']
  exact .tested u (starving (testDrain u)) hmc he hnu

/-- The judgements after an entry's end in DRAINING: the head is not judged outside ONLINE. -/
theorem DrainStep.afterEnd {s u : State} (hs : s.mc.mode = .draining) (hmc : u.mc = s.mc)
    (he : engineDrains u.rsw.engine = true) (hnu : Posted [0, 1, 2, 3, 4, 5, 6, 7, 8, 9] s.nu u.nu) :
    DrainStep s (afterEntryEnd u) := by
  unfold afterEntryEnd
  rw [judgeHead_not_online (by rw [hmc, hs]; exact Mode.noConfusion)]
  exact .settled hmc he hnu

theorem DrainStep.modeLaw {s t : State} (hs : ModeLaw s) (hmode : s.mc.mode = .draining) (h : DrainStep s t) :
    ModeLaw t := by
  obtain ⟨hrun, hengine, hwork⟩ := hs.drains hmode
  cases h with
  | tested u mark hmc he _ =>
    have hm : u.mc.mode = .draining := by rw [hmc, hmode]
    by_cases hd : DrainCondition u
    · have hidle : u.rsw.engine = .idle := idle_of_drains he hd.2.2.2.2.2
      refine modeLaw_rests ?_ ?_ ?_ ?_
      · rw [testDrain_drained hm hd]; rfl
      · rw [testDrain_drained hm hd]; rfl
      · refine (SameWork.of_eq (s := u) ?_ ?_ ?_ ?_ ?_ ?_).drained.2 hd
        all_goals simp
      · simpa using hidle
    · rw [testDrain_not_drained hd]
      exact modeLaw_drains hm (by rw [hmc, hrun]) he hd
  | goesOn t hmc he hd _ =>
    exact modeLaw_drains (by rw [hmc, hmode]) (by rw [hmc, hrun]) (by rw [he]; exact hengine) (fun h => hwork (hd h))

/-! ## Events in DRAINING -/

theorem sweepWriteEnd_drains {s : State} (hmode : s.mc.mode ≠ .online) (h : engineDrains s.rsw.engine = true)
    (fault : Option FaultCause) : engineDrains (sweepWriteEnd fault s).rsw.engine = true := by
  unfold sweepWriteEnd
  split
  · unfold sweepGoOn
    rw [if_neg]
    · rfl
    · cases fault <;> simpa using hmode
  all_goals exact h

theorem slotBusy_set {m m' : Mp} {slot : Fin 16} {x : Slot} (hm : m'.slots = m.slots.set slot x)
    (hx : slotBusy x = slotBusy (m.slots.get slot)) (i : Fin 16) :
    slotBusy (m'.slots.get i) = slotBusy (m.slots.get i) := by
  rw [hm]
  by_cases hi : slot = i
  · subst hi; simpa using hx
  · rw [Table.get_set_ne _ hi]

/-- A late response frees a slot that was not BUSY, and outside ONLINE changes nothing else that is pending (R123). -/
theorem lateResponse_sameWork {slot : Fin 16} {purpose : Purpose} {line : Nat} {sent : Bool} {s : State}
    (hslot : s.mp.slots.get slot = .orphaned purpose line sent) (he : engineDrains s.rsw.engine = true) :
    SameWork s (lateResponse slot purpose line s) := by
  have hengine : (lateResponse slot purpose line s).rsw = s.rsw := by
    unfold lateResponse
    dsimp only
    rw [claimEnded_of_drains (by simpa using he), settleSweep_of_drains (by simpa using he)]
    rfl
  refine ⟨fun i => by simp, fun c => by simp, fun w => by simp, fun r => by simp, ?_, by rw [hengine]⟩
  exact slotBusy_set (slot := slot) (x := .free) (by simp [lateResponse]) (by rw [hslot]; rfl)

/-- The data of a fetch keeps its slot BUSY (R33). -/
theorem fetchToWrite_sameWork {slot : Fin 16} {i : Fin 32} {line deadline : Nat} {e : Entry} {s : State}
    (hslot : s.mp.slots.get slot = .busy (.fetchOf i) line true deadline) (he : s.lat.entries.get i = some e)
    (memory : Table Byte 64) : SameWork s (fetchToWrite slot i line e memory s) := by
  refine ⟨fun j => ?_, fun c => Iff.rfl, fun w => Iff.rfl, fun r => Iff.rfl, slotBusy_set (slot := slot) rfl (by rw [hslot]; rfl), rfl⟩
  by_cases hj : i = j
  · subst hj
    simp [fetchToWrite, engageSlot, he]
  · simp [fetchToWrite, engageSlot, Table.get_set_ne _ hj]

theorem Posted.notDone {kinds : List Nat} {u v : Nu} (h : Posted kinds u v)
    (hk : kinds ⊆ [0, 1, 2, 3, 4, 5, 6, 7, 8, 9] := by decide) : Posted [0, 1, 2, 3, 4, 5, 6, 7, 8, 9] u v := h.mono hk

theorem receive_drainStep {s : State} (hmode : s.mc.mode = .draining) (hrun : s.mc.running = .quiesce)
    (he : engineDrains s.rsw.engine = true) (r : MemoryResponse) : DrainStep s (receive r s) := by
  have honline : s.mc.mode ≠ .online := by rw [hmode]; exact Mode.noConfusion
  obtain ⟨i, line, deadline, hslot, h⟩ | ⟨i, line, -, -, h⟩ | ⟨c, n, line, -, -, h⟩ | ⟨line, -, -, h⟩ | ⟨purpose, line, hslot, h⟩ | h :=
    receive_cases r s
  · rw [h]
    cases hread : readData r with
    | none =>
      rw [fetchReturned_failed hread, claimEnded_of_drains (by simpa using he)]
      exact .afterEnd hmode (endEntry_quiesce i _ (s := freeSlot r.slot s) hrun) (by simpa using he)
        (endEntry_posted i (.lost .fetchFault) (freeSlot r.slot s)).notDone
    | some data =>
      obtain ⟨counters, hcount⟩ := countCorrected_nu data.2 s
      cases hentry : s.lat.entries.get i with
      | none =>
        rw [fetchReturned_free hread hentry, hcount]
        exact .same rfl (.of_eq rfl rfl rfl rfl rfl rfl) (.counted _ _ _)
      | some e =>
        rw [fetchReturned_merged hread hentry, hcount]
        have hcounted : SameWork s { s with nu := { s.nu with counters := counters } } := .of_eq rfl rfl rfl rfl rfl rfl
        exact .same rfl (hcounted.trans (fetchToWrite_sameWork (s := { s with nu := { s.nu with counters := counters } })
          hslot hentry _)) (.counted _ _ _)
  · have hahead : (aheadAfterWrite i (writeDone r) (freeSlot r.slot s)).mc = s.mc := by simp
    rw [h]
    unfold writeReturned
    dsimp only
    have hengine := (aheadAfterWrite_rsw i (writeDone r) (freeSlot r.slot s)).2.1
    rw [claimEnded_of_drains (by simpa [hengine] using he)]
    refine .afterEnd hmode ?_ (by simpa [hengine] using he) ?_
    · rw [endEntry_quiesce i _ (by rw [hahead]; exact hrun), hahead]
    · have := endEntry_posted i (if writeDone r then .completed else .lost .writeFault)
        (aheadAfterWrite i (writeDone r) (freeSlot r.slot s))
      simpa using this.notDone
  · rw [h, readReturned_eq, claimEnded_of_drains (by simpa using he)]
    exact .settled (by simp) (by simpa using he) (pieceReturned_posted c n r (freeSlot r.slot s)).notDone
  · rw [h]
    unfold sweepReturned
    dsimp only
    have hends := sweepWriteEnd_drains (s := freeSlot r.slot s) honline he
    rw [claimEnded_of_drains (hends _)]
    exact .settled (by simp) (hends _) (sweepWriteEnd_posted _ (freeSlot r.slot s)).posted.notDone
  · rw [h]
    refine .same (by simp) (lateResponse_sameWork hslot he) ?_
    exact (((Posted.counted [3, 7] s.nu _).trans (.one (by simp [noticeKind]) _)).trans
      ((lateResponse_posted r.slot purpose line s).mono (by simp))).notDone
  · rw [h]
    exact .same rfl (.of_eq rfl rfl rfl rfl rfl rfl) (Posted.one (kinds := [4]) (by simp [noticeKind]) _).notDone

theorem ownerTimeout_drains {s : State} (hmode : s.mc.mode = .draining) (hrun : s.mc.running = .quiesce)
    (he : engineDrains s.rsw.engine = true) (owner : Owner) :
    (ownerTimeout owner s).mc = s.mc ∧ engineDrains (ownerTimeout owner s).rsw.engine = true := by
  cases owner with
  | fetchOf i => exact ⟨endEntry_quiesce i _ hrun, by simpa [ownerTimeout] using he⟩
  | writeOf i =>
    have hmc : (aheadAfterWrite i false s).mc = s.mc := by simp
    refine ⟨(endEntry_quiesce i _ (by rw [hmc]; exact hrun)).trans hmc, ?_⟩
    simpa [ownerTimeout, (aheadAfterWrite_rsw i false s).2.1] using he
  | readOf c n => exact ⟨by simp [ownerTimeout], by simpa [ownerTimeout] using he⟩
  | sweepEngine =>
    exact ⟨by simp [ownerTimeout], sweepWriteEnd_drains (by rw [hmode]; exact Mode.noConfusion) he _⟩

theorem expireSlot_drainStep {s : State} (hmode : s.mc.mode = .draining) (hrun : s.mc.running = .quiesce)
    (he : engineDrains s.rsw.engine = true) (slot : Fin 16) : DrainStep s (expireSlot slot s) := by
  obtain ⟨owner, line, sent, deadline, -, h⟩ | h := expireSlot_cases slot s
  · obtain ⟨hmc, hengine⟩ := ownerTimeout_drains (s := orphanSlot slot owner line sent deadline s) hmode hrun he owner
    have htold : (toldOrphan slot owner line sent deadline s).mc = s.mc := by
      simpa [toldOrphan] using hmc
    have hdrains : engineDrains (toldOrphan slot owner line sent deadline s).rsw.engine = true := by
      simpa [toldOrphan] using hengine
    have hnu := (toldOrphan_posted slot owner line sent deadline s).posted.notDone
    rw [h]
    split
    · exact .afterEnd hmode htold hdrains hnu
    · exact .settled htold hdrains hnu
  · rw [h]; exact .same rfl (.refl s) (.refl _ _)

theorem discardNext_drainStep {s : State} (hmode : s.mc.mode = .draining) (hrun : s.mc.running = .quiesce)
    (he : engineDrains s.rsw.engine = true) : DrainStep s (discardNext s) := by
  obtain ⟨-, h⟩ | ⟨i, rest, u, -, rfl, ⟨-, h⟩ | ⟨b, -, h⟩⟩ := discardNext_cases s
  · rw [h]; exact .same rfl (.refl s) (.refl _ _)
  · rw [h]; exact .same rfl (.of_eq rfl rfl rfl rfl rfl rfl) (.refl _ _)
  · have hmc : (discardEntry i b.rule { s with ord := { s.ord with discards := rest } }).mc = s.mc :=
      endEntry_quiesce i _ (s := unqueue i { s with ord := { s.ord with discards := rest } }) hrun
    rw [h, judgeHead_not_online (by rw [hmc, hmode]; exact Mode.noConfusion)]
    exact .tested _ _ hmc (by simpa using he)
      (endEntry_posted i _ (unqueue i { s with ord := { s.ord with discards := rest } })).notDone

theorem sendReadResponse_drainStep {s : State} (hmode : s.mc.mode = .draining) (he : engineDrains s.rsw.engine = true) :
    DrainStep s (sendReadResponse s) := by
  obtain ⟨-, h⟩ | ⟨c, rest, u, -, rfl, ⟨-, h⟩ | ⟨x, -, h⟩⟩ := sendReadResponse_cases s
  · rw [h]; exact .same rfl (.refl s) (.refl _ _)
  · rw [h]; exact .same rfl (.of_eq rfl rfl rfl rfl rfl rfl) (.refl _ _)
  · rw [h, judgeHead_not_online (by simp [hmode])]
    exact .tested _ _ (by simp) (by simpa using he) (.of_eq _ (by simp))

theorem sendSyncResponse_drainStep {s : State} (he : engineDrains s.rsw.engine = true) :
    DrainStep s (sendSyncResponse s) := by
  obtain ⟨-, h⟩ | ⟨r, rest, u, -, rfl, ⟨-, h⟩ | ⟨x, -, h⟩⟩ := sendSyncResponse_cases s
  · rw [h]; exact .same rfl (.refl s) (.refl _ _)
  · rw [h]; exact .same rfl (.of_eq rfl rfl rfl rfl rfl rfl) (.refl _ _)
  · rw [h]
    exact .tested (answerSync r x { s with ord := { s.ord with syncReady := rest } }) (testDrain _).starvation (by simp)
      (by simpa using he) (.of_eq _ (by simp))

/-- A grant takes up slots and leaves every entry and context (R118). -/
theorem grantTo_work (slot : Fin 16) (cls : ArbiterClass) {s : State} (hslot : s.mp.slots.get slot = .free)
    (he : engineDrains s.rsw.engine = true) :
    (DrainCondition (grantTo slot cls s) → DrainCondition s) ∧ (grantTo slot cls s).rsw.engine = s.rsw.engine := by
  have hslots : ∀ {m : Mp}, (m.slots = s.mp.slots ∨ ∃ x, m.slots = s.mp.slots.set slot x) →
      (∀ i, slotBusy (m.slots.get i) = false) → ∀ i, slotBusy (s.mp.slots.get i) = false := by
    intro m hm hb i
    obtain hm | ⟨x, hm⟩ := hm
    · rw [← hm]; exact hb i
    · by_cases hi : slot = i
      · rw [← hi, hslot]; rfl
      · have := hb i
        rwa [hm, Table.get_set_ne _ hi] at this
  cases cls with
  | write =>
    obtain h | ⟨i, e, -, hentry, h⟩ := grantWrite_cases slot s
    · have hrsw : (grantTo slot .write s).rsw = s.rsw := by simp [grantTo, h]
      refine ⟨(SameWork.of_eq ?_ (by simp [grantTo]) (by simp) (by simp) ?_ (by rw [hrsw])).drained.1, by rw [hrsw]⟩
      all_goals simp [grantTo, h]
    · have hengine : (grantTo slot .write s).rsw.engine = s.rsw.engine := by
        simp only [grantTo, h, issueEntry]
        rw [claimBegan_of_drains (by simpa using he)]
        rfl
      refine ⟨fun ⟨hl, hc, hw, hr, hm, hx⟩ => ⟨fun j => ?_, by simpa [grantTo] using hc, by simpa using hw, by simpa using hr,
        hslots (.inr ⟨.busy (issueRequest slot i (issuedEntry s e)).1 e.line false (slotDeadlineFrom s),
          by simp [grantTo, h, issueEntry, engageSlot]⟩) hm, by rw [← hengine]; exact hx⟩, hengine⟩
      have := hl i
      simp [grantTo, h, issueEntry] at this
  | read =>
    have hread : ∀ (l : List (Fin 16 × Nat × Span)) (u : State), engineDrains u.rsw.engine = true →
        (grantRead slot l u).rsw.engine = u.rsw.engine ∧
        ((grantRead slot l u).mp.slots = u.mp.slots ∨ ∃ x, (grantRead slot l u).mp.slots = u.mp.slots.set slot x) := by
      intro l
      induction l with
      | nil => exact fun u _ => ⟨rfl, .inl rfl⟩
      | cons y rest ih =>
        obtain ⟨c, i, p⟩ := y
        intro u hu
        unfold grantRead
        dsimp only
        split
        · rw [claimBegan_of_drains (by simpa using hu)]
          exact ⟨by simp, .inr ⟨_, by simp [engageSlot]; rfl⟩⟩
        · have := ih (resolvePiece c i p u).1 (by simpa using hu)
          simpa [resolvePiece_mp] using this
    obtain ⟨hengine, hm⟩ := hread (readCandidates s) s he
    have hreaders := grantRead_readers slot (readCandidates s) s
    refine ⟨fun ⟨hl, hc, hw, hr, hb, hx⟩ => ⟨by simpa [grantTo] using hl, fun c => ?_, by simpa using hw, by simpa using hr,
      hslots hm hb, by rw [← hengine]; exact hx⟩, hengine⟩
    have hnone : (grantRead slot (readCandidates s) s).rdp.contexts.get c = none := hc c
    have hpair := hreaders c
    simp only [pairAt, hnone, Option.map_none] at hpair
    simpa using hpair.symm
  | sweep =>
    have hsame : grantSweep slot s = s := by
      unfold grantSweep
      split
      · rename_i hready; rw [hready] at he; cases he
      all_goals rfl
    have hrsw : (grantTo slot .sweep s).rsw = s.rsw := by simp [grantTo, hsame]
    refine ⟨(SameWork.of_eq (by simp [grantTo]) (by simp [grantTo]) (by simp) (by simp) ?_ (by rw [hrsw])).drained.1,
      by rw [hrsw]⟩
    simp [grantTo, hsame]

theorem grantOne_drainStep {s : State} (he : engineDrains s.rsw.engine = true) : DrainStep s (grantOne s) := by
  obtain h | ⟨slot, cls, hslot, -, h⟩ := grantOne_cases s
  · rw [h]; exact .same rfl (.refl s) (.refl _ _)
  · obtain ⟨hwork, hengine⟩ := grantTo_work slot cls (lowestFreeSlot_some hslot) he
    rw [h, settleSweep_of_drains (by rw [hengine]; exact he)]
    exact .goesOn _ (by simp) hengine hwork (grantTo_posted _ slot cls s)

/-! ## Events at rest -/

/-- With nothing pending no class has a claim (R118). -/
theorem grantOne_idle {s : State} (hwork : DrainCondition s) (he : s.rsw.engine = .idle) : grantOne s = s := by
  obtain ⟨hentries, hcontexts, -, -, -, -⟩ := hwork
  have hclaim : ∀ cls, hasClaim s cls = false := by
    intro cls
    cases cls with
    | write =>
      cases hi : firstEligible s with
      | none => simp [hasClaim, hi]
      | some i =>
        obtain ⟨e, hentry, -⟩ := (eligible_iff s i).1 (firstEligible_some hi).2
        rw [hentries i] at hentry
        cases hentry
    | read =>
      have hnone : readCandidates s = [] := by
        refine List.flatMap_eq_nil_iff.2 fun c _ => ?_
        simp [waitingPieces, hcontexts c]
      simp [hasClaim, hnone]
    | sweep => simp [hasClaim, he]
  have hgranted : grantedClass s = none := List.find?_eq_none.2 fun cls _ => by simp [hclaim cls]
  unfold grantOne
  rw [hgranted]
  split
  · rename_i h; cases h
  · rfl

/-- With nothing pending a response, a deadline, a grant or the next of an order list changes nothing that is pending. -/
theorem event_at_rest {s : State} (hwork : DrainCondition s) (he : s.rsw.engine = .idle) :
    (∀ r, (receive r s).mc = s.mc ∧ SameWork s (receive r s)) ∧ (∀ slot, expireSlot slot s = s) ∧
    grantOne s = s ∧ ((discardNext s).mc = s.mc ∧ SameWork s (discardNext s)) ∧
    ((sendReadResponse s).mc = s.mc ∧ SameWork s (sendReadResponse s)) ∧
    ((sendSyncResponse s).mc = s.mc ∧ SameWork s (sendSyncResponse s)) := by
  obtain ⟨hentries, hcontexts, -, hsyncs, hslots, -⟩ := id hwork
  have hdrains : engineDrains s.rsw.engine = true := by rw [he]; rfl
  have hbusy : ∀ {i owner line sent deadline}, s.mp.slots.get i ≠ .busy owner line sent deadline := by
    intro i owner line sent deadline h
    have := hslots i
    rw [h] at this
    cases this
  refine ⟨fun r => ?_, fun slot => expireSlot_not_busy (hslots slot), grantOne_idle hwork he, ?_, ?_, ?_⟩
  · obtain ⟨_, _, _, h, -⟩ | ⟨_, _, _, h, -⟩ | ⟨_, _, _, _, h, -⟩ | ⟨_, _, h, -⟩ | ⟨purpose, line, hslot, h⟩ | h := receive_cases r s
    · exact absurd h hbusy
    · exact absurd h hbusy
    · exact absurd h hbusy
    · exact absurd h hbusy
    · rw [h]
      exact ⟨by simp, lateResponse_sameWork hslot hdrains⟩
    · rw [h]
      exact ⟨rfl, .of_eq rfl rfl rfl rfl rfl rfl⟩
  · obtain ⟨-, h⟩ | ⟨i, rest, u, -, rfl, ⟨-, h⟩ | ⟨b, hb, h⟩⟩ := discardNext_cases s
    · rw [h]; exact ⟨rfl, .refl s⟩
    · rw [h]; exact ⟨rfl, .of_eq rfl rfl rfl rfl rfl rfl⟩
    · simp [suppressedBarrier, hentries i] at hb
  · obtain ⟨-, h⟩ | ⟨c, rest, u, -, rfl, ⟨-, h⟩ | ⟨x, hx, h⟩⟩ := sendReadResponse_cases s
    · rw [h]; exact ⟨rfl, .refl s⟩
    · rw [h]; exact ⟨rfl, .of_eq rfl rfl rfl rfl rfl rfl⟩
    · rw [hcontexts c] at hx; cases hx
  · obtain ⟨-, h⟩ | ⟨r, rest, u, -, rfl, ⟨-, h⟩ | ⟨x, hx, h⟩⟩ := sendSyncResponse_cases s
    · rw [h]; exact ⟨rfl, .refl s⟩
    · rw [h]; exact ⟨rfl, .of_eq rfl rfl rfl rfl rfl rfl⟩
    · rw [hsyncs r] at hx; cases hx

/-! ## Events by mode -/

/-- The events after which the drain is tested, or a slot is granted. -/
def tellsDrain : Instr → Bool
  | .memoryResponse _ _ => true
  | .slotDeadline _ => true
  | .readResponse => true
  | .syncResponse => true
  | .suppressionDiscard => true
  | .grant _ => true
  | _ => false

/-- Outside ONLINE every other event changes neither Mode Control nor what is pending. -/
theorem quiet_event {c : Instr} {act : State → State} {s : State} (hc : eventAct c = some act) (hs : ModeLaw s)
    (hmode : s.mc.mode ≠ .online) (htells : tellsDrain c = false) : (act s).mc = s.mc ∧ SameWork s (act s) := by
  have he := hs.engine hmode
  cases c <;> cases hc <;> cases htells
  case requestArrival.refl.refl q =>
    refine ⟨by simp, .of_eq ?_ (by simp) ?_ (by simp) (by simp) (by simp)⟩
    · unfold arrive
      dsimp only
      split
      · have hsame := judgeHead_not_online (s := acceptFromLink { s with rqp := { s.rqp with link := s.rqp.link ++ [q] } }) hmode
        rw [hsame]
        rfl
      · rfl
    · unfold arrive
      dsimp only
      split <;> simp [acceptFromLink]
  case take.refl.refl time =>
    obtain ⟨hlat, hrdp, hwrt, hord⟩ := takeAt_not_online hmode time
    exact ⟨by simp, .of_eq hlat (by rw [hrdp]) hwrt (by rw [hord]) (by simp) (by simp)⟩
  case memoryLinkAccept.refl.refl =>
    refine ⟨by simp, ⟨fun i => by simp, fun c => by simp, fun w => by simp, fun r => by simp, fun i => ?_, by simp⟩⟩
    unfold acceptHead
    split
    · rfl
    · refine slotBusy_set rfl ?_ i
      cases s.mp.slots.get _ <;> rfl
  case gatherDeadline.refl.refl i =>
    refine ⟨by simp, ⟨fun j => ?_, fun c => by simp, fun w => by simp, fun r => by simp, fun i => by simp, by simp⟩⟩
    unfold gatherExpires
    split
    · exact closeIn_isNone .idle i j s.lat
    · exact Iff.rfl
  case pacingEnd.refl.refl =>
    have hsame : pacingEnds s = s := by
      unfold pacingEnds
      split
      · rename_i hp; rw [hp] at he; cases he
      all_goals rfl
    rw [hsame]
    exact ⟨rfl, .refl s⟩
  case flushComplete.refl.refl =>
    have hsame : completeFlush s = s := by
      obtain ⟨waitSet, losses, hrun, -, -⟩ | ⟨-, h⟩ := frameStart_cases s
      · exact absurd (hs.2.2.2.2 (by rw [hrun]; rfl)) hmode
      · exact h
    rw [hsame]
    exact ⟨rfl, .refl s⟩
  case noticeRemoved.refl.refl => exact ⟨by simp, .of_eq (by simp) (by simp) (by simp) (by simp) (by simp) (by simp)⟩

theorem DrainStep.at {s t : State} (time : Nat) (h : DrainStep (atTime time s) t) : DrainStep s t := by
  cases h with
  | tested u mark hmc he hnu => exact .tested u mark hmc he hnu
  | goesOn t hmc he hd hnu => exact .goesOn t hmc he hd hnu

/-- In DRAINING every event that tells of the drain is a step of it. -/
theorem drain_event {c : Instr} {act : State → State} {s : State} (hc : eventAct c = some act) (hs : ModeLaw s)
    (hmode : s.mc.mode = .draining) (htells : tellsDrain c = true) : DrainStep s (act s) := by
  obtain ⟨hrun, he, -⟩ := hs.drains hmode
  cases c <;> cases hc <;> cases htells
  case grant.refl.refl time => exact .at time (grantOne_drainStep (s := atTime time s) he)
  case memoryResponse.refl.refl time r => exact .at time (receive_drainStep (s := atTime time s) hmode hrun he r)
  case slotDeadline.refl.refl slot => exact expireSlot_drainStep hmode hrun he slot
  case suppressionDiscard.refl.refl => exact discardNext_drainStep hmode hrun he
  case readResponse.refl.refl => exact sendReadResponse_drainStep hmode he
  case syncResponse.refl.refl => exact sendSyncResponse_drainStep he

theorem rest_event {c : Instr} {act : State → State} {s : State} (hc : eventAct c = some act) (hs : ModeLaw s)
    (hmode : atRest s.mc.mode = true) (htells : tellsDrain c = true) : (act s).mc = s.mc ∧ SameWork s (act s) := by
  obtain ⟨hwork, he, -⟩ := hs.rests hmode
  obtain ⟨hreceive, hexpire, hgrant, hdiscard, hread, hsync⟩ := event_at_rest hwork he
  cases c <;> cases hc <;> cases htells
  case grant.refl.refl time =>
    dsimp only
    rw [grantOne_idle (s := atTime time s) hwork he]
    exact ⟨rfl, .of_eq rfl rfl rfl rfl rfl rfl⟩
  case memoryResponse.refl.refl time r =>
    obtain ⟨hmc, hsame⟩ := (event_at_rest (s := atTime time s) hwork he).1 r
    have hnow : SameWork s (atTime time s) := .of_eq rfl rfl rfl rfl rfl rfl
    exact ⟨hmc, hnow.trans hsame⟩
  case slotDeadline.refl.refl slot => rw [hexpire slot]; exact ⟨rfl, .refl s⟩
  case suppressionDiscard.refl.refl => exact hdiscard
  case readResponse.refl.refl => exact hread
  case syncResponse.refl.refl => exact hsync

/-! ## Mode Control after each event -/

/-- The mode stays, and QUIESCE runs only if it ran. -/
def McKept (m m' : Mc) : Prop := m'.mode = m.mode ∧ (m'.running = .quiesce → m.running = .quiesce)

/-- The mode stays, or a drain has ended. -/
def McStep (m m' : Mc) : Prop := McKept m m' ∨ (m.mode = .draining ∧ m'.mode = .quiesced)

theorem McKept.of_eq {m m' : Mc} (h : m' = m) : McKept m m' := h ▸ ⟨rfl, id⟩

theorem McStep.of_eq {m m' : Mc} (h : m' = m) : McStep m m' := .inl (.of_eq h)

theorem McKept.step {m m' m'' : Mc} (h : McKept m m') (h' : McStep m' m'') : McStep m m'' := by
  obtain ⟨hmode, hrun⟩ := h
  obtain ⟨hmode', hrun'⟩ | ⟨hd, hq⟩ := h'
  · exact .inl ⟨hmode'.trans hmode, fun hr => hrun (hrun' hr)⟩
  · exact .inr ⟨hmode ▸ hd, hq⟩

theorem endEntry_mcKept (i : Fin 32) (kind : EndKind) (s : State) : McKept s.mc (endEntry i kind s).mc :=
  ⟨endEntry_mode i kind s, fun h => not_not.1 fun hr => endEntry_not_quiesce i kind hr h⟩

theorem testDrain_mcStep (s : State) : McStep s.mc (testDrain s).mc := by
  obtain h | ⟨hm, -, h⟩ := testDrain_cases s
  · exact .of_eq (by rw [h])
  · exact .inr ⟨hm, by rw [h]; rfl⟩

theorem afterEntryEnd_mcStep (s : State) : McStep s.mc (afterEntryEnd s).mc := by
  simpa [afterEntryEnd] using testDrain_mcStep (judgeHead s)

theorem receive_mcStep (r : MemoryResponse) (s : State) : McStep s.mc (receive r s).mc := by
  obtain ⟨i, line, -, -, h⟩ | ⟨i, line, -, -, h⟩ | ⟨c, n, line, -, -, h⟩ | ⟨line, -, -, h⟩ | ⟨purpose, line, -, h⟩ | h :=
    receive_cases r s
  · rw [h]
    cases hread : readData r with
    | none =>
      rw [fetchReturned_failed hread]
      refine (endEntry_mcKept i (.lost .fetchFault) (freeSlot r.slot s)).step ?_
      simpa using afterEntryEnd_mcStep (claimEnded line (endEntry i (.lost .fetchFault) (freeSlot r.slot s)))
    | some data =>
      obtain ⟨counters, hcount⟩ := countCorrected_nu data.2 s
      cases he : s.lat.entries.get i with
      | none => rw [fetchReturned_free hread he, hcount]; exact .of_eq rfl
      | some e => rw [fetchReturned_merged hread he, hcount]; exact .of_eq rfl
  · rw [h]
    have hkept := endEntry_mcKept i (if writeDone r then .completed else .lost .writeFault)
      (aheadAfterWrite i (writeDone r) (freeSlot r.slot s))
    refine McKept.step (by simpa using hkept) ?_
    simpa [writeReturned] using afterEntryEnd_mcStep (claimEnded line
      (endEntry i (if writeDone r then .completed else .lost .writeFault)
        (aheadAfterWrite i (writeDone r) (freeSlot r.slot s))))
  · rw [h, readReturned_eq]
    simpa using testDrain_mcStep (claimEnded line (pieceReturned c n r (freeSlot r.slot s)))
  · rw [h]
    simpa [sweepReturned] using testDrain_mcStep (claimEnded line
      (sweepWriteEnd (if writeDone r then none else some .dataFault) (freeSlot r.slot s)))
  · rw [h]; exact .of_eq (by simp)
  · rw [h]; exact .of_eq rfl

theorem ownerTimeout_mcKept (owner : Owner) (s : State) : McKept s.mc (ownerTimeout owner s).mc := by
  cases owner with
  | fetchOf i => exact endEntry_mcKept i _ s
  | writeOf i => simpa [ownerTimeout] using endEntry_mcKept i .unconfirmed (aheadAfterWrite i false s)
  | readOf c n => exact .of_eq (by simp [ownerTimeout])
  | sweepEngine => exact .of_eq (by simp [ownerTimeout])

theorem expireSlot_mcStep (slot : Fin 16) (s : State) : McStep s.mc (expireSlot slot s).mc := by
  obtain ⟨owner, line, sent, deadline, -, h⟩ | h := expireSlot_cases slot s
  · have htold : McKept s.mc (toldOrphan slot owner line sent deadline s).mc := by
      simpa [toldOrphan] using ownerTimeout_mcKept owner (orphanSlot slot owner line sent deadline s)
    rw [h]
    refine htold.step ?_
    split
    · exact afterEntryEnd_mcStep _
    · simpa using testDrain_mcStep (toldOrphan slot owner line sent deadline s)
  · rw [h]; exact .of_eq rfl

/-- An event keeps the mode, and QUIESCE running only if it ran; one that tests the drain can end it (Table 8-1). -/
theorem eventAct_mcStep {c : Instr} {act : State → State} (hc : eventAct c = some act) (s : State) :
    McKept s.mc (act s).mc ∨
    (((∃ time r, c = .memoryResponse time r) ∨ (∃ n, c = .slotDeadline n) ∨ c = .readResponse ∨ c = .syncResponse ∨
      c = .suppressionDiscard) ∧ s.mc.mode = .draining ∧ (act s).mc.mode = .quiesced) := by
  cases c <;> cases hc
  case memoryResponse time r =>
    exact (receive_mcStep r (atTime time s)).imp id fun h => ⟨.inl ⟨time, r, rfl⟩, h⟩
  case slotDeadline slot => exact (expireSlot_mcStep slot s).imp id fun h => ⟨.inr (.inl ⟨slot, rfl⟩), h⟩
  case suppressionDiscard =>
    obtain ⟨-, h⟩ | ⟨i, rest, u, -, rfl, ⟨-, h⟩ | ⟨b, -, h⟩⟩ := discardNext_cases s
    · rw [h]; exact .inl (.of_eq rfl)
    · rw [h]; exact .inl (.of_eq rfl)
    · rw [h]
      have hkept : McKept s.mc (discardEntry i b.rule { s with ord := { s.ord with discards := rest } }).mc :=
        endEntry_mcKept i _ (unqueue i { s with ord := { s.ord with discards := rest } })
      have htested := testDrain_mcStep (judgeHead (discardEntry i b.rule { s with ord := { s.ord with discards := rest } }))
      exact (hkept.step (by simpa using htested)).imp id fun h => ⟨by simp, h⟩
  case readResponse =>
    obtain ⟨-, h⟩ | ⟨c, rest, u, -, rfl, ⟨-, h⟩ | ⟨x, -, h⟩⟩ := sendReadResponse_cases s
    · rw [h]; exact .inl (.of_eq rfl)
    · rw [h]; exact .inl (.of_eq rfl)
    · rw [h]
      have htested := testDrain_mcStep (judgeHead (answerContext c x { s with rdp := { s.rdp with ready := rest } }))
      simp only [judgeHead_frame, answerContext_frame] at htested
      exact htested.imp id fun h => ⟨by simp, h⟩
  case syncResponse =>
    obtain ⟨-, h⟩ | ⟨r, rest, u, -, rfl, ⟨-, h⟩ | ⟨x, -, h⟩⟩ := sendSyncResponse_cases s
    · rw [h]; exact .inl (.of_eq rfl)
    · rw [h]; exact .inl (.of_eq rfl)
    · rw [h]
      have htested := testDrain_mcStep (answerSync r x { s with ord := { s.ord with syncReady := rest } })
      simp only [answerSync_frame] at htested
      exact htested.imp id fun h => ⟨by simp, h⟩
  case flushComplete =>
    obtain ⟨_, _, -, -, h⟩ | ⟨-, h⟩ := frameStart_cases s
    · rw [show completeFlush s = _ from h]; exact .inl ⟨rfl, fun hr => by cases hr⟩
    · rw [show completeFlush s = _ from h]; exact .inl (.of_eq rfl)
  all_goals exact .inl (.of_eq (by simp))

end Sys2Proof.Machine
end

section
/-! The law of the modes (R149 to R155) and the transitions of Table 8-1: the management commands that change the mode, and the two
statements. -/

namespace Sys2Proof.Machine

/-! ## The management commands -/

theorem comeOnline_mc (s : State) : (comeOnline s).mc = { s.mc with mode := .online } := by
  simp [comeOnline, setMode]

theorem goOnline_mc (s : State) :
    (s.mc.mode = .offline ∧ (goOnline s).mc = { s.mc with mode := .online }) ∨ (goOnline s).mc = s.mc := by
  unfold goOnline
  split
  · rename_i h; exact .inl ⟨h, comeOnline_mc _⟩
  · exact .inr rfl

theorem abandonDrain_mc (s : State) : (abandonDrain s).mc.mode = s.mc.mode ∧
    (s.mc.mode = .draining → (abandonDrain s).mc.running = .none) ∧
    (s.mc.mode ≠ .draining → (abandonDrain s).mc = s.mc) := by
  unfold abandonDrain
  split
  · rename_i h; exact ⟨rfl, fun _ => rfl, fun hne => absurd h hne⟩
  all_goals
    rename_i h
    exact ⟨rfl, fun hd => (nomatch h.symm.trans hd), fun _ => rfl⟩

/-- The state that QUIESCE tests for the drain condition: DRAINING, its GATHERING entries closed, its engine IDLE or WRITING (R152). -/
def drainingState (s : State) : State :=
  engineLeaves (closeWhere .drain (fun _ => true) (setMode .draining (startLong .quiesce (answer .started s))))

theorem startDrain_eq (s : State) : startDrain s = judgeStarvation (testDrain (drainingState s)) := rfl

theorem drainingState_mc (s : State) : (drainingState s).mc = { s.mc with mode := .draining, running := .quiesce } := by
  simp [drainingState, setMode, startLong]

theorem engineLeaves_drains (s : State) : engineDrains (engineLeaves s).rsw.engine = true := by
  unfold engineLeaves
  split
  case h_1 h => rw [h]; rfl
  case h_2 h => rw [h]; rfl
  all_goals rfl

theorem quiesce_cases (s : State) :
    (s.mc.mode ≠ .online ∧ quiesce s = answer .refusedMode s) ∨
    (s.mc.mode = .online ∧ s.mc.running ≠ .none ∧ quiesce s = answer .busy s) ∨
    (s.mc.mode = .online ∧ s.mc.running = .none ∧ quiesce s = startDrain s) := by
  unfold quiesce
  split
  · rename_i hmode
    split
    · rename_i hrun; exact .inr (.inr ⟨hmode, hrun, rfl⟩)
    · rename_i hrun; exact .inr (.inl ⟨hmode, hrun, rfl⟩)
  · rename_i hmode; exact .inl ⟨hmode, rfl⟩

theorem resume_cases (s : State) :
    ((s.mc.mode = .draining ∨ s.mc.mode = .quiesced) ∧ resume s = comeOnline (abandonDrain (answer .done s))) ∨
    (¬(s.mc.mode = .draining ∨ s.mc.mode = .quiesced) ∧ resume s = answer .refusedMode s) := by
  unfold resume
  split
  · rename_i h; exact .inl ⟨h, rfl⟩
  · rename_i h; exact .inr ⟨h, rfl⟩

theorem warmReset_mc (s : State) : (warmReset s).mc.mode = .offline ∧ (warmReset s).mc.running = .none := by
  have hrun : (abortLong s).mc.running = .none := by
    unfold abortLong
    split
    · assumption
    · rfl
    · rfl
  have hcleared : (clearTraffic (abortResponses (abortLong s))).mc.mode = .offline ∧
      (clearTraffic (abortResponses (abortLong s))).mc.running = .none := ⟨rfl, hrun⟩
  unfold warmReset
  dsimp only
  split
  · simpa using hcleared
  · exact hcleared

/-- A warm reset leaves nothing pending (R157). -/
theorem warmReset_drained (s : State) : DrainCondition (warmReset s) ∧ (warmReset s).rsw.engine = .idle := by
  have hcleared : ∀ u : State, DrainCondition (clearTraffic u) := by
    intro u
    refine ⟨fun i => by simp [clearTraffic, Lat.reset], fun c => by simp [clearTraffic, Rdp.reset],
      fun w => by simp [clearTraffic], fun r => by simp [clearTraffic], fun i => ?_, rfl⟩
    simp only [clearTraffic, Table.get_map]
    cases u.mp.slots.get i <;> rfl
  refine ⟨?_, by rw [warmReset_rsw]⟩
  unfold warmReset
  dsimp only
  split
  · refine (SameWork.of_eq (s := clearTraffic (abortResponses (abortLong s))) ?_ ?_ ?_ ?_ (judgeStall_slots _) ?_).drained.2
      (hcleared _)
    all_goals simp
  · exact hcleared _

/-- What a management command makes of the mode (Table 8-1). -/
theorem frameAct_mode {c : Instr} {act : State → State} (hc : frameAct c = some act) (s : State) :
    (act s).mc.mode = s.mc.mode ∨
    (c = .goOnline ∧ s.mc.mode = .offline ∧ (act s).mc.mode = .online) ∨
    (c = .quiesce ∧ s.mc.mode = .online ∧ ((act s).mc.mode = .draining ∨ (act s).mc.mode = .quiesced)) ∨
    (c = .resume ∧ (s.mc.mode = .draining ∨ s.mc.mode = .quiesced) ∧ (act s).mc.mode = .online) ∨
    (c = .resetBridge ∧ (act s).mc.mode = .offline) := by
  cases c <;> cases hc
  case goOnline =>
    obtain ⟨hm, h⟩ | h := goOnline_mc s
    · exact .inr (.inl ⟨rfl, hm, by rw [h]⟩)
    · exact .inl (by rw [h])
  case quiesce =>
    obtain ⟨-, h⟩ | ⟨-, -, h⟩ | ⟨hm, -, h⟩ := quiesce_cases s
    · exact .inl (by rw [h]; rfl)
    · exact .inl (by rw [h]; rfl)
    · refine .inr (.inr (.inl ⟨rfl, hm, ?_⟩))
      rw [h, startDrain_eq]
      have hmode : (drainingState s).mc.mode = .draining := by rw [drainingState_mc]
      obtain ⟨hkept, -⟩ | ⟨-, hended⟩ := testDrain_mcStep (drainingState s)
      · exact .inl (hkept.trans hmode)
      · exact .inr hended
  case resume =>
    obtain ⟨hm, h⟩ | ⟨-, h⟩ := resume_cases s
    · exact .inr (.inr (.inr (.inl ⟨rfl, hm, by rw [h, comeOnline_mc]⟩)))
    · exact .inl (by rw [h]; rfl)
  case flush =>
    left
    unfold flush
    split
    · split <;> rfl
    · rfl
  case resetBridge => exact .inr (.inr (.inr (.inr ⟨rfl, (warmReset_mc s).1⟩)))
  all_goals exact .inl (by simp)

/-! ## The law -/

theorem modeLaw_event {c : Instr} {act : State → State} {s : State} (hc : eventAct c = some act) (hs : ModeLaw s) :
    ModeLaw (act s) := by
  obtain hmode | hmode | hmode := mode_cases s.mc.mode
  · obtain ⟨hkept, hrun⟩ | ⟨-, hdraining, -⟩ := eventAct_mcStep hc s
    · exact modeLaw_online (hkept.trans hmode) (fun h => hs.online hmode (hrun h))
    · rw [hmode] at hdraining; cases hdraining
  · have honline : s.mc.mode ≠ .online := by rw [hmode]; exact Mode.noConfusion
    cases htells : tellsDrain c with
    | true => exact (drain_event hc hs hmode htells).modeLaw hs hmode
    | false =>
      obtain ⟨hmc, hsame⟩ := quiet_event hc hs honline htells
      exact hs.same_work hmc hsame
  · have honline : s.mc.mode ≠ .online := fun h => by rw [h] at hmode; cases hmode
    cases htells : tellsDrain c with
    | true =>
      obtain ⟨hmc, hsame⟩ := rest_event hc hs hmode htells
      exact hs.same_work hmc hsame
    | false =>
      obtain ⟨hmc, hsame⟩ := quiet_event hc hs honline htells
      exact hs.same_work hmc hsame

/-- QUIESCE starts a drain, or completes it at once when nothing is pending (R152, R153). -/
theorem startDrain_modeLaw (s : State) : ModeLaw (startDrain s) := by
  have hmc := drainingState_mc s
  have hmode : (drainingState s).mc.mode = .draining := by rw [hmc]
  have he : engineDrains (drainingState s).rsw.engine = true := engineLeaves_drains _
  rw [startDrain_eq]
  by_cases hd : DrainCondition (drainingState s)
  · refine modeLaw_rests ?_ ?_ ?_ ?_
    · rw [testDrain_drained hmode hd]; rfl
    · rw [testDrain_drained hmode hd]; rfl
    · refine (SameWork.of_eq (s := drainingState s) ?_ ?_ ?_ ?_ ?_ ?_).drained.2 hd
      all_goals simp
    · simpa using idle_of_drains he hd.2.2.2.2.2
  · rw [testDrain_not_drained hd]
    exact modeLaw_drains hmode (by simp [hmc]) he hd

/-- A command that leaves Mode Control and what is pending, and outside ONLINE the engine too. -/
theorem ModeLaw.of_engine {s t : State} (hs : ModeLaw s) (hmc : t.mc = s.mc)
    (he : s.mc.mode ≠ .online → SameWork s t) : ModeLaw t := by
  by_cases hmode : s.mc.mode = .online
  · exact modeLaw_online (by rw [hmc, hmode]) (by rw [hmc]; exact hs.online hmode)
  · exact hs.same_work hmc (he hmode)

theorem modeLaw_frame {c : Instr} {act : State → State} {s : State} (hc : frameAct c = some act) (hs : ModeLaw s) :
    ModeLaw (act s) := by
  cases c <;> cases hc
  case setItem code value =>
    refine hs.of_engine (by simp) fun hmode => .of_eq (by simp) (by simp) (by simp) (by simp) (by simp) ?_
    unfold setItem
    split
    · rename_i item _
      split
      · cases item
        case sweepUrgentLevel =>
          change (settleSweep (withUrgentLevel value s)).rsw.engine = _
          rw [settleSweep_of_drains (s := withUrgentLevel value s) (hs.engine hmode)]
          rfl
        all_goals rfl
      · rfl
    · rfl
  case defineRegion index base size mode pattern =>
    refine hs.of_engine (by simp) fun hmode => .of_eq (by simp) (by simp) (by simp) (by simp) (by simp) ?_
    obtain h | ⟨k, sweep, -, -, -, -, put, rfl, h⟩ := defineRegion_cases index base size mode pattern s
    · rw [h]; rfl
    · rw [h]
      cases sweep
      · rfl
      · have hsame : ∀ u : State, u.mc.mode ≠ .online → evaluateAfterDefine u = u := fun u hu => by
          simp [evaluateAfterDefine, hu]
        simp only [if_true]
        rw [hsame (putRegion k _ s) hmode, settleSweep_of_drains (s := putRegion k _ s) (hs.engine hmode)]
        rfl
  case retireRegion index =>
    refine hs.same_work (by simp) (.of_eq (by simp) (by simp) (by simp) (by simp) (by simp) ?_)
    obtain ⟨status, h⟩ | ⟨k, -, -, h⟩ := retireRegion_cases index s
    · rw [h]; rfl
    · rw [h]
      unfold removeRegion
      split <;> rfl
  case setRule =>
    refine hs.same_work (by simp) (.of_eq (by simp) (by simp) (by simp) ?_ (by simp) (by simp))
    unfold setRule
    split
    · split <;> rfl
    · rfl
  case clearRule =>
    refine hs.same_work (by simp) (.of_eq (by simp) (by simp) (by simp) ?_ (by simp) (by simp))
    unfold clearRule
    split
    · split <;> rfl
    · rfl
  case goOnline =>
    unfold goOnline
    split
    · rename_i hmode
      refine modeLaw_online (by rw [comeOnline_mc]) ?_
      rw [comeOnline_mc]
      change s.mc.running ≠ .quiesce
      rw [(hs.rests (by rw [hmode]; rfl)).2.2]
      exact Running.noConfusion
    · exact hs.same_work rfl (.of_eq rfl rfl rfl rfl rfl rfl)
  case quiesce =>
    obtain ⟨-, h⟩ | ⟨-, -, h⟩ | ⟨-, -, h⟩ := quiesce_cases s
    · rw [h]; exact hs.same_work rfl (.of_eq rfl rfl rfl rfl rfl rfl)
    · rw [h]; exact hs.same_work rfl (.of_eq rfl rfl rfl rfl rfl rfl)
    · rw [h]; exact startDrain_modeLaw s
  case resume =>
    obtain ⟨hmode, h⟩ | ⟨-, h⟩ := resume_cases s
    · rw [h]
      refine modeLaw_online (by rw [comeOnline_mc]) ?_
      rw [comeOnline_mc]
      obtain ⟨-, hdraining, hother⟩ := abandonDrain_mc (answer .done s)
      obtain hmode | hmode := hmode
      · simp [hdraining hmode]
      · rw [hother (by simp [hmode])]
        change s.mc.running ≠ .quiesce
        rw [(hs.rests (by rw [hmode]; rfl)).2.2]
        exact Running.noConfusion
    · rw [h]; exact hs.same_work rfl (.of_eq rfl rfl rfl rfl rfl rfl)
  case flush =>
    unfold flush
    split
    · rename_i hmode
      split
      · exact modeLaw_online hmode (fun h => by cases h)
      · exact hs.same_work rfl (.of_eq rfl rfl rfl rfl rfl rfl)
    · exact hs.same_work rfl (.of_eq rfl rfl rfl rfl rfl rfl)
  case resetBridge =>
    obtain ⟨hmode, hrun⟩ := warmReset_mc s
    obtain ⟨hwork, he⟩ := warmReset_drained s
    refine ModeLaw.same_work (s := warmReset s) (modeLaw_rests (by rw [hmode]; rfl) hrun hwork he) rfl
      (.of_eq rfl rfl rfl rfl rfl rfl)
  case reclaimSlots =>
    unfold reclaimSlots
    split
    · exact hs.same_work rfl (.of_eq rfl rfl rfl rfl rfl rfl)
    · refine hs.same_work rfl ⟨fun _ => Iff.rfl, fun _ => Iff.rfl, fun _ => Iff.rfl, fun _ => Iff.rfl, fun i => ?_, rfl⟩
      simp only [answerWith_mp, judgeStarvation_mp, reclaim, Table.get_map]
      cases s.mp.slots.get i <;> rfl
  all_goals exact hs.same_work (by simp) (.of_eq (by simp) (by simp) (by simp) (by simp) (by simp) (by simp))

theorem modeLaw_kept : KeptByActs ModeLaw where
  noAct _ _ _ _ _ _ hs := hs.same_work rfl (.of_eq rfl rfl rfl rfl rfl rfl)
  powerOn held s := modeLaw_rests rfl rfl
    ⟨fun i => by simp [powerOnState, State.reset, Lat.reset], fun c => by simp [powerOnState, State.reset, Rdp.reset],
      fun w => by simp [powerOnState, State.reset, Rqp.reset],
      fun r => by simp [powerOnState, State.reset, OrderUnit.reset],
      fun i => by simp [powerOnState, State.reset, Mp.reset, slotBusy], rfl⟩ rfl
  flushEnd s hs := by
    obtain ⟨waitSet, losses, hrun, -, h⟩ | ⟨-, h⟩ := frameStart_cases s
    · rw [h]
      have hmode : s.mc.mode = .online := hs.2.2.2.2 (by rw [hrun]; rfl)
      exact modeLaw_online hmode (fun h => by cases h)
    · rw [h]; exact hs
  event c act s hc hs := modeLaw_event hc hs
  frame c act s hc hs := modeLaw_frame hc hs

/-- Settles O51: outside ONLINE nothing new is taken and the engine stands still, and in DRAINING every act that can end the last of the
work tests the drain. -/
theorem modesHoldWhatTheyPermit : Obligations.ModesHoldWhatTheyPermit := fun _ _ hs h => modeLaw_kept.step hs h

/-! ## Table 8-1 -/

theorem isCommandDone_eq_false {bodies : List NoticeBody}
    (h : ∀ b ∈ bodies, noticeKind b ∈ [0, 1, 2, 3, 4, 5, 6, 7, 8, 9]) : ∀ b ∈ bodies, isCommandDone b = false := by
  intro b hb
  have hkind := h b hb
  refine beq_eq_false_iff_ne.2 fun hten => ?_
  rw [hten] at hkind
  exact absurd hkind (by decide)

/-- A step of a drain is what the drain test makes of it (R151, R153). -/
theorem DrainStep.drainTested {s t : State} (hs : ModeLaw s) (hmode : s.mc.mode = .draining) (h : DrainStep s t) :
    DrainTested s t := by
  have hlaw := h.modeLaw hs hmode
  cases h with
  | tested u mark hmc he hnu =>
    have hm : u.mc.mode = .draining := by rw [hmc, hmode]
    have hsame : DrainCondition { testDrain u with starvation := mark } ↔ DrainCondition u :=
      (SameWork.of_eq (s := u) (by simp) (by simp) (by simp) (by simp) (by simp) (by simp)).drained
    obtain ⟨own, counters, hown, hbodies⟩ := hnu
    refine ⟨own, counters, isCommandDone_eq_false hown, fun hd => ?_, fun hd => ?_⟩
    · rw [testDrain_drained hm (hsame.1 hd)]
      exact ⟨rfl, by rw [← hbodies]; rfl⟩
    · rw [testDrain_not_drained (fun h => hd (hsame.2 h))]
      exact ⟨hmc, hbodies⟩
  | goesOn t hmc he hd hnu =>
    obtain ⟨own, counters, hown, hbodies⟩ := hnu
    have hwork : ¬ DrainCondition t := fun h => (hs.drains hmode).2.2 (hd h)
    exact ⟨own, counters, isCommandDone_eq_false hown, fun h => absurd h hwork, fun _ => ⟨hmc, hbodies⟩⟩

/-- Settles O57: the transitions of every act are those of the table, and an event in DRAINING is a step of the drain. -/
theorem modeChangesOnlyAsListed : Obligations.ModeChangesOnlyAsListed := by
  refine ⟨fun c s t h => ?listed, fun c s hs hheld hmode hc => ?drained⟩
  case listed =>
    obtain ⟨act, hact, -, rfl⟩ | ⟨act, hact, -, rfl⟩ | ⟨hc, held, rfl⟩ | ⟨link, frame, broken, rfl⟩ := exec_cases h
    · obtain ⟨hkept, -⟩ | hended := eventAct_mcStep hact s
      · exact .inl hkept
      · exact .inr (.inr (.inr (.inr (.inr hended))))
    · have hstart := frameStart_mode s
      obtain h | ⟨hc, hm, ht⟩ | ⟨hc, hm, ht⟩ | ⟨hc, hm, ht⟩ | ⟨hc, ht⟩ := frameAct_mode hact (frameStart s)
      · exact .inl (h.trans hstart)
      · exact .inr (.inl ⟨hc, hstart ▸ hm, ht⟩)
      · exact .inr (.inr (.inl ⟨hc, hstart ▸ hm, ht⟩))
      · exact .inr (.inr (.inr (.inl ⟨hc, hstart ▸ hm, ht⟩)))
      · exact .inr (.inr (.inr (.inr (.inl ⟨.inl hc, ht⟩))))
    · exact .inr (.inr (.inr (.inr (.inl ⟨.inr hc, rfl⟩))))
    · exact .inl rfl
  case drained =>
    have htells : ∃ act, eventAct c = some act ∧ tellsDrain c = true := by
      obtain ⟨time, r, rfl⟩ | ⟨n, rfl⟩ | rfl | rfl | rfl := hc <;> exact ⟨_, rfl, rfl⟩
    obtain ⟨act, hact, htells⟩ := htells
    exact ⟨act s, exec_eventAct hact hheld, (drain_event hact hs hmode htells).drainTested hs hmode⟩

end Sys2Proof.Machine
end

section
/-! The step, the power-on reset, the laws it meets, and the frames and events of one short act each. -/

namespace Sys2Proof.Machine

/-! ## The step -/

/-- Settles O1. -/
theorem stepRunsTheFrontCommand : Obligations.StepRunsTheFrontCommand :=
  ⟨fun c s => step_cons (s := { s with pending := c :: s.pending }) rfl, fun _ h => step_nil h⟩

/-! ## The power-on reset -/

/-- Settles O2. -/
theorem powerOnValuesOfEveryBlock : Obligations.PowerOnValuesOfEveryBlock :=
  ⟨rfl, rfl, rfl, fun _ => Table.get_fill _ _, fun _ => Table.get_fill _ _, rfl, rfl, rfl, fun _ => Table.get_fill _ _,
    fun _ => Table.get_fill _ _, fun _ => Table.get_fill _ _, fun _ => FinSet.has_empty _, fun _ => Table.get_fill _ _,
    rfl, rfl, fun _ => Table.get_fill _ _, rfl, rfl, rfl, rfl, rfl, rfl, rfl⟩

theorem powerOn_eq (u : Mli) :
    u.powerOn = { Mli.reset with frame := if u.frame = .ignoring then .ignoring else .waiting } := by
  unfold Mli.powerOn
  split <;> rfl

theorem powerOnState_eq (held : Bool) (s : State) : powerOnState held s = { State.reset with
    rqp := { State.reset.rqp with link := s.rqp.link },
    mli := { State.reset.mli with frame := if s.mli.frame = .ignoring then .ignoring else .waiting },
    held := held, now := s.now, out := s.out, pending := s.pending } := by
  rw [powerOnState, powerOn_eq]
  rfl

theorem ignoresFrame_held {s : State} (h : s.held = true) : ignoresFrame s = true := by simp [ignoresFrame, h]

theorem ignoresFrame_ignoring {s : State} (h : s.mli.frame = .ignoring) : ignoresFrame s = true := by
  simp [ignoresFrame, h]

theorem onFrame_ignored {s : State} (h : ignoresFrame s = true) (act : State → State) :
    onFrame s act = .next (if s.mli.frame = .ignoring then setFrame .waiting s else s) := by
  rw [onFrame, if_pos h]

theorem exec_brokenFrame_ignored {s : State} (h : ignoresFrame s = true) (cut : FrameCut) :
    exec (.brokenFrame cut) s = .next (ignoredCut cut s) := by
  show Host.Outcome.next _ = _
  rw [if_pos h]

theorem exec_brokenFrame_heard {s : State} (h : ignoresFrame s = false) (cut : FrameCut) :
    exec (.brokenFrame cut) s = .next (frameBroken cut s) := by
  show Host.Outcome.next _ = _
  rw [h]
  rfl

/-- While the reset is held every other command that is no arrival leaves all but the frame receiver (R158, R175). -/
theorem exec_held {c : Instr} {s : State} (hs : s.held = true) (hon : c ≠ .powerOnReset) (hoff : c ≠ .resetReleased)
    (harrive : ∀ q, c ≠ .requestArrival q) : ∃ f, exec c s = .next { s with mli := { s.mli with frame := f } } ∧
      (c = .brokenFrame .byReset → f = .ignoring) ∧
      (c ≠ .brokenFrame .byReset → s.mli.frame ≠ .ignoring → f = s.mli.frame) := by
  obtain ⟨act, hc⟩ | ⟨act, hc⟩ | ⟨cut, rfl⟩ | rfl | rfl := eventAct_or_frameAct c
  · refine ⟨s.mli.frame, ?_, ?_, fun _ _ => rfl⟩
    · rw [exec_eventAct_guarded hc harrive, whenRunning_held hs]
    · rintro rfl; cases hc
  · rw [exec_frameAct hc, onFrame_ignored (ignoresFrame_held hs)]
    refine ⟨if s.mli.frame = .ignoring then .waiting else s.mli.frame, ?_, ?_, fun _ hf => if_neg hf⟩
    · split <;> rfl
    · rintro rfl; cases hc
  · rw [exec_brokenFrame_ignored (ignoresFrame_held hs)]
    cases cut with
    | byReset => exact ⟨.ignoring, rfl, fun _ => rfl, fun h => absurd rfl h⟩
    | inRequest received =>
      refine ⟨if s.mli.frame = .ignoring then .waiting else s.mli.frame, ?_, nofun, fun _ hf => if_neg hf⟩
      unfold ignoredCut
      dsimp only
      split <;> rfl
    | inAnswer clocked => exact ⟨s.mli.frame, rfl, nofun, fun _ _ => rfl⟩
  · exact absurd rfl hon
  · exact absurd rfl hoff

/-- Settles O3. -/
theorem powerOnResetClearsAndHolds : Obligations.PowerOnResetClearsAndHolds := by
  intro s
  refine ⟨congrArg Host.Outcome.next (powerOnState_eq true s), fun hs => ?_, fun hs => ?_, fun c hs hon hoff => ?_⟩
  · show execResetReleased s = _
    rw [execResetReleased, if_pos hs, powerOnState_eq]
  · show execResetReleased s = _
    rw [execResetReleased, hs]
    rfl
  · by_cases harrive : ∃ q, c = .requestArrival q
    · obtain ⟨q, rfl⟩ := harrive
      exact .inl ⟨q, rfl, by simp [exec, execRequestArrival, hs]⟩
    · exact .inr ⟨fun q hq => harrive ⟨q, hq⟩, exec_held hs hon hoff fun q hq => harrive ⟨q, hq⟩⟩

/-- Settles O56. -/
theorem resetMeetsEveryLaw : Obligations.ResetMeetsEveryLaw :=
  ⟨claimLaw_kept.powerOn false State.reset, issueLaw_kept.powerOn false State.reset,
    gatherLaw_kept.powerOn false State.reset, modeLaw_kept.powerOn false State.reset,
    tagLaw_kept.powerOn false State.reset, regionLaw_kept.powerOn false State.reset,
    starvationLaw_of_empty rfl rfl, aheadLaw_kept.powerOn false State.reset,
    intakeLaw_kept.powerOn false State.reset, noticeLaw_kept.powerOn false State.reset⟩

/-! ## Short acts -/

theorem acceptHead_nil {s : State} (h : s.mp.sendOrder = []) : acceptHead s = s := by simp only [acceptHead, h]

theorem acceptHead_cons {s : State} {m : MemoryRequest} {rest : List MemoryRequest} (h : s.mp.sendOrder = m :: rest) :
    acceptHead s = { s with
      mp := { s.mp with
        sendOrder := rest,
        slots := s.mp.slots.set (memoryRequestSlot m) (slotSent (s.mp.slots.get (memoryRequestSlot m))) },
      out := { s.out with memory := s.out.memory ++ [m] } } := by
  simp only [acceptHead, h]

/-- Settles O20. -/
theorem linkAcceptsTheHeadOfTheSendOrder : Obligations.LinkAcceptsTheHeadOfTheSendOrder := by
  intro s hs
  refine ⟨fun h => ?_, fun m rest h => ⟨acceptHead s, exec_eventAct rfl hs, ?_⟩⟩
  · rw [exec_eventAct (c := .memoryLinkAccept) rfl hs, acceptHead_nil h]
  · rw [acceptHead_cons h]
    refine ⟨rfl, fun i hi => Table.get_set_ne _ (Ne.symm hi) _, ?_⟩
    dsimp only
    rw [Table.get_set_self]
    cases s.mp.slots.get (memoryRequestSlot m) <;> rfl

theorem completeFlush_running {s : State} (h : ∀ waitSet losses, s.mc.running = .flush waitSet losses → waitSet.isEmpty = false) :
    completeFlush s = s := by
  obtain ⟨w, l, hrun, hempty, -⟩ | ⟨-, h⟩ := frameStart_cases s
  · rw [h w l hrun] at hempty; cases hempty
  · exact h

/-- Settles O31. -/
theorem flushCompletesWithItsOutcome : Obligations.FlushCompletesWithItsOutcome := by
  intro s hs
  have hexec : exec .flushComplete s = .next (completeFlush s) := exec_eventAct rfl hs
  refine ⟨fun waitSet losses hrun hempty => ?_, fun h => ?_, hexec⟩
  · rw [hexec, completeFlush, hrun]
    dsimp only
    rw [if_pos hempty]
    rfl
  · rw [hexec, completeFlush_running h]

theorem takeNotice_empty {s : State} (h : s.nu.queue = []) : takeNotice s = answer .empty s := by
  simp only [takeNotice, h]

theorem takeNotice_oldest {s : State} {n : Notice} {rest : List Notice} (h : s.nu.queue = n :: rest) :
    takeNotice s = answerFrame { status := .done, fields := .notice n } true s := by
  simp only [takeNotice, h]

/-- Settles O36. -/
theorem takeNoticeRemovesAtTheFrameEnd : Obligations.TakeNoticeRemovesAtTheFrameEnd := by
  refine ⟨fun s₀ s hs => ⟨fun h => ?_, fun n rest h => ?_⟩, fun s n rest bytes hs h hframe => ?_⟩
  · rw [exec_frameAct (c := .takeNotice) rfl, onFrame_heard hs, takeNotice_empty h]; rfl
  · rw [exec_frameAct (c := .takeNotice) rfl, onFrame_heard hs, takeNotice_oldest h]
  · rw [exec_eventAct (c := .noticeRemoved) rfl hs, noticeTaken, hframe]
    dsimp only
    rw [endFrame, removeNotice, h]
    rfl

/-- A cut of a frame that the receiver hears sets the broken-frame mark, and the receiver waits for a fresh one (R167). -/
theorem frameBroken_heard {cut : FrameCut} {s : State} (hcut : cut.wellFormed = true) (hreset : cut ≠ .byReset)
    (hanswer : ∀ n, cut = .inAnswer n → ∃ bytes removes, s.mli.frame = .answering bytes removes ∧ n < bytes.length) :
    frameBroken cut s = { s with mli := { s.mli with brokenFrame := true, frame := .waiting } } := by
  match cut with
  | .byReset => exact absurd rfl hreset
  | .inRequest [] => cases hcut
  | .inRequest (_ :: _) => rfl
  | .inAnswer n =>
    obtain ⟨bytes, removes, hframe, hn⟩ := hanswer n rfl
    simp only [frameBroken, hframe, if_pos hn]
    simp only [endFrame, setFrame, markFrame]

theorem frameAct_of_encodes {c : Instr} (h : (encodeFrame c).isSome = true) : ∃ act, frameAct c = some act := by
  cases c <;> cases h <;> exact ⟨_, rfl⟩

/-- Settles O37. -/
theorem unknownAndBrokenFrames : Obligations.UnknownAndBrokenFrames := by
  refine ⟨fun code s₀ s hs => ?_, fun cut s hs hcut hreset hanswer => ?_, fun c s hs hframe hc => ?_, fun s hs => ?_,
    fun requestBytes k s h => ?_⟩
  · rw [exec_frameAct (c := .unknownCommand code) rfl, onFrame_heard hs]; rfl
  · rw [exec_brokenFrame_heard hs, frameBroken_heard hcut hreset hanswer]
  · obtain hc | ⟨bytes, rfl⟩ := hc
    · obtain ⟨act, hact⟩ := frameAct_of_encodes hc
      rw [exec_frameAct hact, onFrame_ignored (ignoresFrame_ignoring hframe), if_pos hframe]
      rfl
    · rw [exec_brokenFrame_ignored (ignoresFrame_ignoring hframe), ignoredCut]
      dsimp only
      rw [if_pos hframe]
      rfl
  · rw [exec_brokenFrame_ignored (ignoresFrame_held hs)]; rfl
  · unfold dataOut
    split
    · rfl
    · rename_i hout
      obtain h | h | h | h := h
      · exact absurd (.inl h) hout
      · exact absurd (.inr h) hout
      · rw [h]; rfl
      · rw [h]; rfl

end Sys2Proof.Machine
end

section
/-! The management commands over the tables, RECLAIM_SLOTS, FLUSH and QUIESCE. -/

namespace Sys2Proof.Machine

/-! ## RETIRE_REGION and SET_RULE (R94, R50) -/

theorem retireRegion_refusedMode {s : State} (h : atRest s.mc.mode = false) (index : Byte) :
    retireRegion index s = answer .refusedMode s := by
  rw [retireRegion, h]; rfl

theorem retireRegion_refusedArgument {s : State} {index : Byte} (hm : atRest s.mc.mode = true)
    (hi : indexArgument index = none) : retireRegion index s = answer .refusedArgument s := by
  rw [retireRegion, if_pos hm, hi]

theorem retireRegion_done {s : State} {index : Byte} {k : Fin 8} (hm : atRest s.mc.mode = true)
    (hi : indexArgument index = some k) : retireRegion index s = answer .done (removeRegion k s) := by
  rw [retireRegion, if_pos hm, hi]

/-- A region whose Ahead List records go leaves room in the list, so that nothing starves (R27). -/
theorem starving_of_room {s : State} (h : s.rsw.ahead.length < 48) : starving s = false := by
  simp [starving, aheadHasRoom, Config.aheadCapacity, h]

/-- Settles O39. -/
theorem retireRegionRemovesTheRecord : Obligations.RetireRegionRemovesTheRecord := by
  intro index s₀ s hs
  rw [exec_frameAct (c := .retireRegion index) rfl, onFrame_heard hs]
  refine ⟨fun hm => ?_, fun hm => ⟨fun hi => ?_, fun k hk => ?_⟩⟩
  · rw [retireRegion_refusedMode (atRest_eq_false hm)]; rfl
  · rw [retireRegion_refusedArgument (atRest_eq_true hm) (indexArgument_eq_none hi)]; rfl
  · rw [retireRegion_done (atRest_eq_true hm) (indexArgument_eq_some hk)]
    refine ⟨fun habsent => ?_, fun hpresent => ⟨_, rfl, ?_, fun hlength hnamed => ?_⟩⟩
    · rw [removeRegion, if_pos habsent]; rfl
    · rw [removeRegion, if_neg hpresent]; rfl
    · rw [removeRegion, if_neg hpresent]
      exact starving_of_room (lt_of_lt_of_le (List.length_filter_lt_length_iff_exists.2 (by simpa using hnamed)) hlength)

theorem setRule_refusedMode {s : State} (h : atRest s.mc.mode = false) (index : Byte) (base limit : BitVec 40)
    (requester scope suppress note : Byte) :
    setRule index base limit requester scope suppress note s = answer .refusedMode s := by
  rw [setRule, h]; rfl

theorem setRule_refusedArgument {s : State} (h : atRest s.mc.mode = true) {index : Byte} {base limit : BitVec 40}
    {requester scope suppress note : Byte}
    (hargs : indexArgument index = none ∨ ruleArguments base limit requester scope suppress note = none) :
    setRule index base limit requester scope suppress note s = answer .refusedArgument s := by
  rw [setRule, if_pos h]
  obtain hargs | hargs := hargs
  · rw [hargs]
  · rw [hargs]; cases indexArgument index <;> rfl

theorem setRule_done {s : State} (h : atRest s.mc.mode = true) {index : Byte} {base limit : BitVec 40}
    {requester scope suppress note : Byte} {k : Fin 8} {r : ReleaseRule} (hi : indexArgument index = some k)
    (hr : ruleArguments base limit requester scope suppress note = some r) :
    setRule index base limit requester scope suppress note s = answer .done (putRule k (some r) s) := by
  rw [setRule, if_pos h, hi, hr]

theorem matchArgument_none {b : Byte} (h : b ≠ 0xFF#8 ∧ 16 ≤ b.toNat) : matchArgument b = none := by
  rw [matchArgument, if_neg h.1, dif_neg (by omega)]

theorem matchArgument_some {b : Byte} {who : Option Requester}
    (h : who = none ∧ b = 0xFF#8 ∨ ∃ r, who = some r ∧ r.val = b.toNat) : matchArgument b = some who := by
  obtain ⟨rfl, rfl⟩ | ⟨r, rfl, hr⟩ := h
  · rfl
  · have hlt : b.toNat < 16 := hr ▸ r.isLt
    have hany : b ≠ 0xFF#8 := by rintro rfl; simp at hlt
    rw [matchArgument, if_neg hany, dif_pos hlt]
    simp only [← hr]

theorem scopeArgument_none {b : Byte} (h : b ≠ 0#8 ∧ b ≠ 1#8) : scopeArgument b = none := by
  rw [scopeArgument, if_neg h.1, if_neg h.2]

theorem scopeArgument_some {b : Byte} (h : b = 0#8 ∨ b = 1#8) :
    scopeArgument b = some (if b = 1#8 then .all else .own) := by
  obtain rfl | rfl := h <;> rfl

theorem yesNoArgument_some {b : Byte} (h : b = 0#8 ∨ b = 1#8) : yesNoArgument b = some (decide (b = 1#8)) := by
  obtain rfl | rfl := h <;> rfl

theorem ruleArguments_none {base limit : BitVec 40} {requester scope : Byte} (suppress note : Byte)
    (h : limit.toNat ≤ base.toNat ∨ 2 ^ 40 < limit.toNat * 64 ∨ matchArgument requester = none ∨
      scopeArgument scope = none) : ruleArguments base limit requester scope suppress note = none := by
  unfold ruleArguments
  split
  · rename_i hrange
    simp only [Config.lineBytes, Config.spaceBytes] at hrange
    obtain h | h | h | h := h
    · omega
    · omega
    · simp only [h]
    · simp only [h]
      cases matchArgument requester <;> rfl
  · rfl

theorem ruleArguments_some {base limit : BitVec 40} {requester scope suppress note : Byte} {who : Option Requester}
    {sc : Scope} {su no : Bool} (hrange : base.toNat < limit.toNat ∧ limit.toNat * 64 ≤ 2 ^ 40)
    (hwho : matchArgument requester = some who) (hsc : scopeArgument scope = some sc)
    (hsu : yesNoArgument suppress = some su) (hno : yesNoArgument note = some no) :
    ruleArguments base limit requester scope suppress note = some
      { base := base.toNat * 64, limit := limit.toNat * 64, requester := who, scope := sc, suppress := su, note := no } := by
  unfold ruleArguments
  rw [if_pos (by simpa only [Config.lineBytes, Config.spaceBytes] using hrange), hwho, hsc, hsu, hno]
  rfl

/-- Settles O41. -/
theorem setRuleReplacesTheRule : Obligations.SetRuleReplacesTheRule := by
  intro index base limit requester scope suppress note s₀ s hs
  rw [exec_frameAct (c := .setRule index base limit requester scope suppress note) rfl, onFrame_heard hs]
  refine ⟨fun hm => ?_, fun hm => ⟨fun h => ?_, fun k who hk hlt hlimit hwho hscope hsuppress hnote => ?_⟩⟩
  · rw [setRule_refusedMode (atRest_eq_false hm)]; rfl
  · rw [setRule_refusedArgument (atRest_eq_true hm) ?_]
    · rfl
    · obtain h | h | h | h | h := h
      · exact .inl (indexArgument_eq_none h)
      · exact .inr (ruleArguments_none _ _ (.inl h))
      · exact .inr (ruleArguments_none _ _ (.inr (.inl h)))
      · exact .inr (ruleArguments_none _ _ (.inr (.inr (.inl (matchArgument_none h)))))
      · exact .inr (ruleArguments_none _ _ (.inr (.inr (.inr (scopeArgument_none h)))))
  · rw [setRule_done (atRest_eq_true hm) (indexArgument_eq_some hk) (ruleArguments_some ⟨hlt, hlimit⟩
      (matchArgument_some hwho) (scopeArgument_some hscope) (yesNoArgument_some hsuppress) (yesNoArgument_some hnote))]
    rfl

/-! ## RECLAIM_SLOTS (R128) -/

theorem countP_slots_pos (m : Mp) (p : Slot → Bool) : 0 < m.slots.cells.countP p ↔ m.slots.cells.any p = true := by
  rw [List.countP_pos_iff, List.any_eq_true]

/-- Settles O47. -/
theorem reclaimFreesTheOrphanedSlots : Obligations.ReclaimFreesTheOrphanedSlots := by
  intro s₀ s hs
  rw [exec_frameAct (c := .reclaimSlots) rfl, onFrame_heard hs]
  refine ⟨fun hm => ?_, fun hm => ⟨_, _, rfl, (slotCount_eq_card slotOrphaned s.mp), ?_, ?_, ?_, ?_, ?_, ?_, reclaimSlots_only s⟩⟩
  · rw [reclaimSlots, if_pos hm]; rfl
  all_goals rw [reclaimSlots, if_neg hm]
  · rfl
  · exact fun i => Table.get_map _ _ i
  · rfl
  · rfl
  · intro hn
    have hany := (countP_slots_pos s.mp slotOrphaned).1 hn
    show (s.mp.stallMark && !s.mp.slots.cells.any slotOrphaned) = false
    simp [hany]
  · intro hn
    have hany : s.mp.slots.cells.any slotOrphaned = false := by
      rw [← Bool.not_eq_true, ← countP_slots_pos]
      exact fun h => h.ne' hn
    show (s.mp.stallMark && !s.mp.slots.cells.any slotOrphaned) = s.mp.stallMark
    simp [hany]

/-! ## FLUSH (R67) -/

theorem FrameFinds.released {s₀ s : State} (h : FrameFinds s₀ s) : s.held = false := by
  obtain ⟨hheard, rfl⟩ := h
  have hheld : (frameStart s₀).held = s₀.held := by rw [frameStart, completeFlush_only]
  simp only [ignoresFrame, Bool.or_eq_false_iff] at hheard
  exact hheld.trans hheard.1

/-- Closing an entry leaves it in use. -/
theorem closeWhere_isSome (cause : CloseCause) (p : Entry → Bool) (s : State) (i : Fin 32) :
    ((closeWhere cause p s).lat.entries.get i).isSome = (s.lat.entries.get i).isSome := closeEach_isSome cause _ i s.lat

theorem closeWhere_all_gathering (cause : CloseCause) (s : State) (i : Fin 32) :
    entryIs isGathering ((closeWhere cause (fun _ => true) s).lat.entries.get i) = false := by
  rw [← Bool.not_eq_true, entryIs_iff]
  rintro ⟨e, he, hg⟩
  exact absurd (closeWhere_none cause _ s he ((isGathering_iff e).1 hg)).1 (by simp)

theorem entryIs_true (e : Option Entry) : entryIs (fun _ => true) e = e.isSome := by cases e <;> rfl

theorem startFlush_mc (s : State) : ∃ waitSet, (startFlush s).mc = { s.mc with running := .flush waitSet false } ∧
    ∀ i, waitSet.has i = (s.lat.entries.get i).isSome :=
  ⟨_, rfl, fun i => by rw [has_entrySet, entryIs_true, closeWhere_isSome]; rfl⟩

/-- What a READ_STATUS finds after a FLUSH that has nothing to wait for (R174, log entry 28). -/
theorem readStatus_after_empty_flush {t : State} {waitSet : FinSet 32} (hheld : t.held = false)
    (hframe : t.mli.frame ≠ .ignoring) (hrun : t.mc.running = .flush waitSet false) (hempty : waitSet.isEmpty = true) :
    ∃ u record, exec .readStatus t = .next u ∧
      u.out.answers = t.out.answers ++ [{ status := .done, fields := .status record }] ∧
      u.mc = { t.mc with running := .none, last := some (.flush, .clean) } ∧
      u.nu = postToNu (.commandDone .flush .clean) t.nu ∧
      record.running = none ∧ record.last = some (.flush, .clean) := by
  have hstart : frameStart t = endLong .flush .clean t := by
    rw [frameStart, completeFlush, hrun]
    dsimp only
    rw [if_pos hempty]
    rfl
  have hfinds : FrameFinds t (endLong .flush .clean t) := ⟨by simp [ignoresFrame, hheld, hframe], hstart.symm⟩
  exact ⟨_, statusRecord (endLong .flush .clean t), exec_readStatus_heard hfinds, rfl, rfl, rfl, rfl, rfl⟩

/-- Settles O45. -/
theorem flushWaitsForEveryEntry : Obligations.FlushWaitsForEveryEntry := by
  intro s₀ s hs
  rw [exec_frameAct (c := .flush) rfl, onFrame_heard hs]
  refine ⟨fun hm => ?_, fun hm hrun => ?_, fun hm hrun => ?_⟩
  · rw [flush, if_neg hm]; rfl
  · rw [flush, if_pos hm, if_neg hrun]; rfl
  · rw [flush, if_pos hm, if_pos hrun]
    obtain ⟨waitSet, hmc, hset⟩ := startFlush_mc s
    refine ⟨startFlush s, waitSet, rfl, hmc, hset, closeWhere_all_gathering .flush (answer .started s),
      closeWhere_closed (cause := .flush) nofun _ (answer .started s), rfl, rfl, fun hnone => ?_⟩
    have hempty : waitSet.isEmpty = true := (FinSet.isEmpty_iff _).2 fun i => by rw [hset, hnone]; rfl
    obtain ⟨u, record, hexec, hout, humc, hnu, hrec⟩ := readStatus_after_empty_flush (t := startFlush s)
      hs.released (by intro h; cases h) (congrArg Mc.running hmc) hempty
    exact ⟨u, record, hexec, hout, by rw [humc, hmc], hnu, hrec⟩

/-! ## QUIESCE (R152, R153) -/

theorem engineLeaves_writing {s : State} {k : Fin 8} {line : Nat} (h : s.rsw.engine = .writing k line) :
    engineLeaves s = s := by simp only [engineLeaves, h]

theorem engineLeaves_other {s : State} (h : ∀ k line, s.rsw.engine ≠ .writing k line) : engineLeaves s = setEngine .idle s := by
  unfold engineLeaves
  split
  case h_1 k line he => exact absurd he (h k line)
  case h_2 he => rw [setEngine, ← he]
  all_goals rfl

theorem drainingState_lat (s : State) :
    (drainingState s).lat = (closeWhere .drain (fun _ => true) (setMode .draining (startLong .quiesce (answer .started s)))).lat := by
  rw [drainingState, engineLeaves_only]

theorem drainingState_rsw (s : State) : (drainingState s).rsw = (engineLeaves s).rsw := by
  unfold drainingState engineLeaves
  simp only [closeWhere_rsw]
  have hrsw : (setMode .draining (startLong .quiesce (answer .started s))).rsw = s.rsw := rfl
  rw [hrsw]
  cases s.rsw.engine <;> rfl

theorem drainingState_only (s : State) : drainingState s = { s with
    lat := (drainingState s).lat, rsw := (drainingState s).rsw, mc := (drainingState s).mc, mli := (drainingState s).mli,
    out := (drainingState s).out } := by
  unfold drainingState
  rw [engineLeaves_only]
  rfl

theorem drainingState_out (s : State) :
    (drainingState s).out = { s.out with answers := s.out.answers ++ [{ status := .started, fields := .nothing }] } := by
  rw [drainingState, engineLeaves_only]
  rfl

theorem drainingState_mli (s : State) :
    (drainingState s).mli = { s.mli with frame := .answering (answerOut { status := .started, fields := .nothing }) false } := by
  rw [drainingState, engineLeaves_only]
  rfl

/-- The drain condition is that of the state the QUIESCE found: closing keeps the entries in use, and a WRITING engine goes on. -/
theorem drainingState_drained (s : State) : DrainCondition (drainingState s) ↔ drained s = true := by
  have hentries : ∀ i, (drainingState s).lat.entries.get i = none ↔ s.lat.entries.get i = none := fun i => by
    rw [← Option.not_isSome_iff_eq_none, ← Option.not_isSome_iff_eq_none, drainingState_lat, closeWhere_isSome]
    rfl
  have hengine : engineWrites (drainingState s).rsw.engine = engineWrites s.rsw.engine := by
    rw [drainingState_rsw]
    unfold engineLeaves
    cases he : s.rsw.engine <;> simp [he, setEngine, engineWrites]
  rw [drained_iff, DrainCondition, DrainCondition, hengine, drainingState_only]
  simp only [hentries]

theorem drainingState_nu (s : State) : (drainingState s).nu = s.nu := by
  rw [drainingState_only]

theorem startDrain_drained {s : State} (h : drained s = true) : startDrain s =
    judgeStarvation (endLong .quiesce .done { drainingState s with mc := { (drainingState s).mc with mode := .quiesced } }) := by
  rw [startDrain_eq, testDrain_drained (by rw [drainingState_mc]) ((drainingState_drained s).2 h)]

theorem startDrain_goes_on {s : State} (h : drained s = false) : startDrain s = judgeStarvation (drainingState s) := by
  rw [startDrain_eq, testDrain_not_drained fun hd => ?_]
  rw [drainingState_drained, h] at hd
  cases hd

/-- Settles O44. -/
theorem quiesceStartsTheDrain : Obligations.QuiesceStartsTheDrain := by
  intro s₀ s hs
  rw [exec_frameAct (c := .quiesce) rfl, onFrame_heard hs]
  refine ⟨fun hm => ?_, fun hm hrun => ?_, fun hm hrun => ⟨startDrain s, ?_, ?_⟩⟩
  · rw [quiesce, if_neg hm]; rfl
  · rw [quiesce, if_pos hm, if_neg hrun]; rfl
  · rw [quiesce, if_pos hm, if_pos hrun]
  · have hlat : (startDrain s).lat = _ := (show _ = (drainingState s).lat by rw [startDrain_eq]; simp).trans (drainingState_lat s)
    have hrsw : (startDrain s).rsw = (engineLeaves s).rsw := by rw [startDrain_eq, ← drainingState_rsw]; simp
    have hout : (startDrain s).out = (drainingState s).out := by rw [startDrain_eq]; simp
    have hmli : (startDrain s).mli = (drainingState s).mli := by rw [startDrain_eq]; simp
    obtain ⟨hregions, hahead⟩ := engineLeaves_rsw s
    refine ⟨hout.trans (drainingState_out s), ?_, ?_, ?_, fun k line h => ?_, fun h => ?_, ?_, ?_, startDrain_only s, ?_,
      ?_, ?_, ?_, ?_, ?_, ?_, fun hd => ?_, fun hd => ?_⟩
    · rw [hlat]; exact closeWhere_all_gathering .drain _
    · rw [hlat]; exact fun i => closeWhere_isSome .drain _ _ i
    · rw [hlat]; exact closeWhere_closed (cause := .drain) nofun _ (setMode .draining (startLong .quiesce (answer .started s)))
    · rw [hrsw, engineLeaves_writing h]
    · rw [hrsw, engineLeaves_other h]; rfl
    · rw [hmli, drainingState_mli]
    · rw [hmli, drainingState_mli]
    · rw [hrsw]; exact engineLeaves_drains s
    · simp
    · simp
    · simp
    · simp
    · rw [hrsw, hregions]
    · rw [hrsw, hahead]
    · rw [startDrain_goes_on hd]
      exact ⟨drainingState_mc s, drainingState_nu s⟩
    · rw [startDrain_drained hd]
      simp [drainingState_nu]

end Sys2Proof.Machine
end

section
/-! What an evaluation of the sweep engine rests on, what the end of a claim makes of it (R103 to R110), and what the judgement of the
head rests on (R136, R141). -/

namespace Sys2Proof.Machine

/-! ## Evaluations -/

/-- An evaluation that finds no line to go on with leaves the engine IDLE and tells nothing (R103). -/
theorem Evaluates.of_rests {s t : State} (h : Evaluates s t) (hrests : s.mc.mode ≠ .online ∨ sweepTarget s = none) :
    t = { s with rsw := { s.rsw with engine := .idle } } := by
  cases h with
  | rests => rfl
  | stops _ k line hm ht => obtain h | h := hrests; exacts [absurd hm h, absurd (ht.symm.trans h) nofun]
  | passes _ _ k line info hm ht => obtain h | h := hrests; exacts [absurd hm h, absurd (ht.symm.trans h) nofun]

/-- An evaluation stops at a watermark line without a WRITTEN record, BLOCKED or READY (R103). -/
theorem Evaluates.of_stops {s t : State} (h : Evaluates s t) (hm : s.mc.mode = .online) {k : Fin 8} {line : Nat}
    (ht : sweepTarget s = some (k, line)) (hw : writtenAhead s.rsw line = false) :
    t = { s with rsw := { s.rsw with engine := if claimed s.mp line then .blocked k line else .ready k line } } := by
  cases h with
  | rests _ hrests => obtain h | h := hrests; exacts [absurd hm h, absurd (ht.symm.trans h) nofun]
  | stops _ k' line' _ ht' => obtain ⟨rfl, rfl⟩ := Prod.mk.inj (Option.some.inj (ht.symm.trans ht')); rfl
  | passes _ _ k' line' info _ ht' _ hw' =>
    obtain ⟨rfl, rfl⟩ := Prod.mk.inj (Option.some.inj (ht.symm.trans ht'))
    rw [hw] at hw'; cases hw'

theorem sweepTarget_congr {s s' : State} (h : s'.rsw = s.rsw) : sweepTarget s' = sweepTarget s := by
  simp only [sweepTarget, h]

/-- What an evaluation makes of the sweep rests on the sweep, the claims and whether the mode is ONLINE. -/
theorem Evaluates.congr {s t : State} (h : Evaluates s t) {s' : State} (hrsw : s'.rsw = s.rsw) (hmp : s'.mp.slots = s.mp.slots)
    (hmode : s'.mc.mode = .online ↔ s.mc.mode = .online) : ∃ t', Evaluates s' t' ∧ t'.rsw = t.rsw := by
  induction h generalizing s' with
  | rests s hrests =>
    refine ⟨_, .rests s' (hrests.imp (fun h => fun h' => h (hmode.1 h')) fun h => (sweepTarget_congr hrsw).trans h), ?_⟩
    dsimp only; rw [hrsw]
  | stops s k line hm ht hw =>
    refine ⟨_, .stops s' k line (hmode.2 hm) ((sweepTarget_congr hrsw).trans ht) (by rw [hrsw]; exact hw), ?_⟩
    have hclaimed : claimed s'.mp line = claimed s.mp line := by rw [claimed, claimed, hmp]
    dsimp only; rw [hrsw, hclaimed]
  | passes s t k line info hm ht hk hw _ ih =>
    obtain ⟨t', ht', hrsw'⟩ := ih (s' := withLinePassed k line info s') (by simp only [withLinePassed, hrsw]) hmp hmode
    exact ⟨t', .passes s' t' k line info (hmode.2 hm) ((sweepTarget_congr hrsw).trans ht) (by rw [hrsw]; exact hk)
      (by rw [hrsw]; exact hw) ht', hrsw'⟩

theorem SweepEvaluated.of_evaluate {u t : State} (hmp : t.mp.slots = u.mp.slots) (h : t.rsw = (evaluate u).rsw) :
    SweepEvaluated u.rsw u.mc.mode t := by
  obtain ⟨v, hv, hrsw⟩ := (evaluate_evaluates u).congr (s' := { u with mp := t.mp }) rfl hmp Iff.rfl
  exact ⟨{ u with mp := t.mp }, v, rfl, rfl, rfl, hv, h.trans hrsw.symm⟩

/-- Nothing is left to pass behind an evaluation: another one finds the same. -/
theorem Evaluates.again {s t : State} (h : Evaluates s t) : Evaluates t t := by
  induction h with
  | rests s h => exact .rests { s with rsw := { s.rsw with engine := .idle } } h
  | stops s k line hm ht hw =>
    exact .stops { s with rsw := { s.rsw with engine := if claimed s.mp line then .blocked k line else .ready k line } } k line
      hm ht hw
  | passes _ _ _ _ _ _ _ _ _ _ ih => exact ih

theorem Evaluates.unique {s t t' : State} (h : Evaluates s t) (h' : Evaluates s t') : t' = t := by
  induction h with
  | rests s hrests => exact h'.of_rests hrests
  | stops s k line hm ht hw => exact h'.of_stops hm ht hw
  | passes s t k line info hm ht hk hw _ ih =>
    cases h' with
    | rests _ hrests => obtain h | h := hrests; exacts [absurd hm h, absurd (ht.symm.trans h) nofun]
    | stops _ k' line' _ ht' hw' =>
      obtain ⟨rfl, rfl⟩ := Prod.mk.inj (Option.some.inj (ht.symm.trans ht'))
      rw [hw] at hw'; cases hw'
    | passes _ _ k' line' info' _ ht' hk' _ h' =>
      obtain ⟨rfl, rfl⟩ := Prod.mk.inj (Option.some.inj (ht.symm.trans ht'))
      obtain ⟨rfl, -⟩ := Region.sweeping.inj (hk.symm.trans hk')
      exact ih h'

theorem evaluate_evaluate (s : State) : evaluate (evaluate s) = evaluate s :=
  (evaluate_evaluates s).again.unique (evaluate_evaluates (evaluate s))

theorem SweepEvaluated.mode_congr {r : Rsw} {m m' : Mode} {t : State} (h : SweepEvaluated r m t)
    (hm : m' = .online ↔ m = .online) : SweepEvaluated r m' t := by
  obtain ⟨u, v, hr, hmp, hmode, he, ht⟩ := h
  obtain ⟨v', he', hv'⟩ := he.congr (s' := { u with mc := { u.mc with mode := m' } }) rfl rfl (by rw [hmode]; exact hm)
  exact ⟨{ u with mc := { u.mc with mode := m' } }, v', hr, hmp, rfl, he', ht.trans hv'.symm⟩

/-- A settled sweep that does not pace is as it was. -/
theorem settleSweep_rsw_of_not_pacing {s : State} (h : ∀ u, s.rsw.engine ≠ .pacing u) :
    (settleSweep s).rsw = s.rsw ∧ (settleSweep s).nu = s.nu := by
  rw [settleSweep_of_not_pacing h]; exact ⟨rfl, rfl⟩

/-- A pacing goes on while neither the level nor the full Ahead List makes the sweep urgent (R108, R109). -/
theorem settleSweep_rsw_of_room {s : State} (hlevel : s.rsw.ahead.length < s.mli.items.sweepUrgentLevel.toNat)
    (hroom : s.rsw.ahead.length < 48) : (settleSweep s).rsw = s.rsw ∧ (settleSweep s).nu = s.nu := by
  rw [settleSweep_of_not_urgent hlevel (starving_of_room hroom)]; exact ⟨rfl, rfl⟩

/-! ## The end of a claim (R105) -/

theorem claimEnded_blocked {s : State} {k : Fin 8} {line : Nat} (h : s.rsw.engine = .blocked k line) :
    claimEnded line s = evaluate s := by simp only [claimEnded, h, if_true]

theorem claimEnded_other {s : State} {line : Nat} (h : ∀ k, s.rsw.engine ≠ .blocked k line) : claimEnded line s = s := by
  unfold claimEnded
  split
  · rename_i k target he
    exact if_neg fun (ht : target = line) => h k (ht ▸ he)
  all_goals rfl

theorem claimEndIsFound {u v : State} {line : Nat} (hrsw : v.rsw = (claimEnded line u).rsw) (hmp : v.mp.slots = u.mp.slots)
    (hmode : u.mc.mode = .online ↔ v.mc.mode = .online) :
    ClaimEndIsFound u.rsw u.mc.mode line (settleSweep v) where
  blocked k hk := by
    rw [claimEnded_blocked hk] at hrsw
    have hsettled := settleSweep_rsw_of_not_pacing (s := v) fun w => hrsw ▸ evaluate_engine_ne_pacing u w
    exact .of_evaluate (by simp [hmp]) (hsettled.1.trans hrsw)
  pacing w hw hlevel hroom := by
    rw [claimEnded_other fun k hk => nomatch hw.symm.trans hk] at hrsw
    rw [← hrsw] at hlevel hroom ⊢
    exact (settleSweep_rsw_of_room (by simpa using hlevel) hroom).1
  urgent w hw hlevel := by
    rw [claimEnded_other fun k hk => nomatch hw.symm.trans hk] at hrsw
    rw [← hrsw] at hw hlevel ⊢
    exact (settleSweep_evaluated hw (.inl (by simpa using hlevel))).mode_congr hmode
  others hb hp := by
    rw [claimEnded_other hb] at hrsw
    rw [(settleSweep_rsw_of_not_pacing (s := v) fun w => hrsw ▸ hp w).1, hrsw]

/-! ## The judgement of the head -/

theorem evictFor_lat (q : Request) (s : State) : (evictFor q s).lat =
    if freeEntries s.lat < entriesNeeded s q && s.lat.evictMark.isNone then
      (victim s q).elim s.lat (fun i => closeIn .evict i s.lat)
    else s.lat := by
  unfold evictFor
  split
  · cases victim s q <;> rfl
  · rfl

/-- The closes of the resource step rest on the LAT and the release rules. -/
theorem resourceCloses_lat_congr {s s' : State} (q : Request) (hlat : s'.lat = s.lat)
    (hrules : s'.ord.rules = s.ord.rules) : (resourceCloses q s').lat = (resourceCloses q s).lat := by
  have hrule : ruleFor s'.ord q = ruleFor s.ord q := by simp only [ruleFor, hrules]
  simp only [resourceCloses, evictFor_lat, entriesNeeded, victim, headTargets, heldLimitEntries, hlat, hrule]

theorem regionHolds_eq (line : Nat) (r : Region) :
    regionHolds line r = (rangeOf r).any (fun x => decide (x.1 ≤ line ∧ line < x.1 + x.2)) := by
  cases r <;> rfl

/-- The judgement of a request rests on the mode, the tags in use and where the regions lie. -/
theorem judge_congr {s s' : State} (q : Request) (hmode : s'.mc.mode = s.mc.mode) (htags : s'.rqp.tags = s.rqp.tags)
    (hregions : ∀ k, rangeOf (s'.rsw.regions.get k) = rangeOf (s.rsw.regions.get k)) : judge s' q = judge s q := by
  have hlegal : legality s' q = legality s q := by unfold legality; rw [htags]
  have hregion : ∀ line, regionOf s'.rsw line = regionOf s.rsw line := fun line => by
    simp only [regionOf, Table.findLowest, regionHolds_eq, hregions]
  have hrange : range s' q = range s q := by unfold range; simp only [hregion]
  rw [judge, judge, hmode, hlegal, hrange]

theorem judgedLat_congr {s s' : State} (head : Option Request) (hlat : s'.lat = s.lat) (hrules : s'.ord.rules = s.ord.rules)
    (hmode : s'.mc.mode = s.mc.mode) (htags : s'.rqp.tags = s.rqp.tags)
    (hregions : ∀ k, rangeOf (s'.rsw.regions.get k) = rangeOf (s.rsw.regions.get k)) :
    judgedLat head s' = judgedLat head s := by
  cases head with
  | none => exact hlat
  | some q => simp only [judgedLat, judge_congr q hmode htags hregions, resourceCloses_lat_congr q hlat hrules, hlat]

theorem judgedLat_not_online {s : State} (h : s.mc.mode ≠ .online) (head : Option Request) : judgedLat head s = s.lat := by
  cases head with
  | none => rfl
  | some q => exact if_neg fun hq => judge_not_online h q hq.1

end Sys2Proof.Machine
end

section
/-! GO_ONLINE, RESUME, DEFINE_REGION and the warm reset. -/

namespace Sys2Proof.Machine

/-! ## GO_ONLINE and RESUME (R150, R156) -/

theorem evaluateOnline_writing {s : State} {k : Fin 8} {line : Nat} (h : s.rsw.engine = .writing k line) :
    evaluateOnline s = s := by simp only [evaluateOnline, h]

theorem evaluateOnline_other {s : State} (h : ∀ k line, s.rsw.engine ≠ .writing k line) : evaluateOnline s = evaluate s := by
  unfold evaluateOnline
  split
  case h_1 k line he => exact absurd he (h k line)
  all_goals rfl

/-- What the engine evaluates when the mode becomes ONLINE: the head has been judged. -/
def onlineState (s : State) : State := judgeHead (setMode .online s)

theorem comeOnline_eq (s : State) : comeOnline s = settleSweep (evaluateOnline (onlineState s)) := rfl

theorem onlineState_frame (s : State) : (onlineState s).rsw = s.rsw ∧ (onlineState s).mp = s.mp ∧
    (onlineState s).mc = { s.mc with mode := .online } ∧ (onlineState s).nu = s.nu := by
  simp [onlineState, setMode]

theorem comeOnline_lat (s : State) : (comeOnline s).lat = judgedLat s.rqp.intake.head? (setMode .online s) := by
  rw [comeOnline_eq]
  simp only [settleSweep_frame, evaluateOnline_frame]
  exact judgeHead_lat (setMode .online s)

theorem comeOnline_writing {s : State} {k : Fin 8} {line : Nat} (h : s.rsw.engine = .writing k line) :
    (comeOnline s).rsw = s.rsw := by
  have hrsw : (onlineState s).rsw = s.rsw := (onlineState_frame s).1
  rw [comeOnline_eq, evaluateOnline_writing (by rw [hrsw]; exact h),
    (settleSweep_rsw_of_not_pacing fun u => by rw [hrsw, h]; nofun).1, hrsw]

theorem comeOnline_evaluates {s : State} (h : ∀ k line, s.rsw.engine ≠ .writing k line) :
    (comeOnline s).rsw = (evaluate (onlineState s)).rsw := by
  have hrsw : (onlineState s).rsw = s.rsw := (onlineState_frame s).1
  rw [comeOnline_eq, evaluateOnline_other (by rw [hrsw]; exact h),
    (settleSweep_rsw_of_not_pacing (evaluate_engine_ne_pacing _)).1]

theorem comeOnline_sweepEvaluated {s : State} (h : ∀ k line, s.rsw.engine ≠ .writing k line) :
    SweepEvaluated s.rsw .online (comeOnline s) := by
  obtain ⟨hrsw, hmp, hmc, -⟩ := onlineState_frame s
  have hfound := SweepEvaluated.of_evaluate (u := onlineState s) (t := comeOnline s) (by simp [hmp]) (comeOnline_evaluates h)
  rwa [hrsw, hmc] at hfound

theorem comeOnline_stops {s : State} (h : ∀ k line, s.rsw.engine ≠ .writing k line) {k : Fin 8} {line : Nat}
    (ht : sweepTarget s = some (k, line)) (hw : writtenAhead s.rsw line = false) : (comeOnline s).rsw =
      { s.rsw with engine := if claimed s.mp line then .blocked k line else .ready k line } := by
  obtain ⟨hrsw, hmp, hmc, -⟩ := onlineState_frame s
  rw [comeOnline_evaluates h, (evaluate_evaluates (onlineState s)).of_stops (by rw [hmc])
    ((sweepTarget_congr hrsw).trans ht) (by rw [hrsw]; exact hw)]
  dsimp only
  rw [hrsw, hmp]

/-- An accepted GO_ONLINE or RESUME answers DONE, ends a running drain ABANDONED, and brings the mode ONLINE. -/
theorem exec_comes_online {c : Instr} {s₀ s : State} (hs : FrameFinds s₀ s)
    (h : (c = .goOnline ∧ s.mc.mode = .offline) ∨ (c = .resume ∧ (s.mc.mode = .quiesced ∨ s.mc.mode = .draining))) :
    ∃ u, exec c s₀ = .next (comeOnline u) ∧ u = { answer .done s with mc := u.mc, nu := u.nu } ∧
      (s.mc.mode ≠ .draining → u.mc = s.mc ∧ u.nu = s.nu) ∧
      (s.mc.mode = .draining → u.mc = { s.mc with running := .none, last := some (.quiesce, .abandoned) } ∧
        u.nu = postToNu (.commandDone .quiesce .abandoned) s.nu) := by
  obtain ⟨rfl, hm⟩ | ⟨rfl, hm⟩ := h
  · refine ⟨answer .done s, ?_, rfl, fun _ => ⟨rfl, rfl⟩, fun hd => nomatch hm.symm.trans hd⟩
    rw [exec_frameAct (c := .goOnline) rfl, onFrame_heard hs, goOnline, if_pos hm]
  · refine ⟨abandonDrain (answer .done s), ?_, ?_, fun hd => ?_, fun hd => ?_⟩
    · rw [exec_frameAct (c := .resume) rfl, onFrame_heard hs, resume, if_pos hm.symm]
    · unfold abandonDrain; split <;> rfl
    · obtain hm | hm := hm
      · have hmode : (answer .done s).mc.mode = .quiesced := hm
        rw [abandonDrain, hmode]; exact ⟨rfl, rfl⟩
      · exact absurd hm hd
    · have hmode : (answer .done s).mc.mode = .draining := hd
      rw [abandonDrain, hmode]; exact ⟨rfl, rfl⟩

/-- Settles O43. -/
theorem goOnlineAndResumeStartTheBridge : Obligations.GoOnlineAndResumeStartTheBridge := by
  intro c s₀ s hs _
  refine ⟨?_, fun h => ?_⟩
  · rintro (⟨rfl, hm⟩ | ⟨rfl, hm⟩)
    · rw [exec_frameAct (c := .goOnline) rfl, onFrame_heard hs, goOnline, if_neg hm]; rfl
    · rw [exec_frameAct (c := .resume) rfl, onFrame_heard hs, resume, if_neg (by obtain hm | hm := hm <;> simp [hm])]; rfl
  · obtain ⟨u, hexec, hu, hkept, hended⟩ := exec_comes_online hs h
    have hrsw : u.rsw = s.rsw := by rw [hu]; rfl
    refine ⟨comeOnline u, hexec, by rw [comeOnline_mc], ?_, ?_, ?_, ?_, ?_, ?_, ?_, fun hd => ?_, fun hd => ⟨?_, fun hroom => ?_⟩,
      fun r l hw => ?_, fun hw => ?_, fun k line hw ht hahead => ?_⟩
    iterate 6 (simp only [comeOnline_frame]; rw [hu]; rfl)
    · rw [comeOnline_lat, hu]
      exact judgedLat_congr _ rfl rfl rfl rfl fun _ => rfl
    · rw [comeOnline_mc, (hkept hd).1]
    · rw [comeOnline_mc, (hended hd).1]
    · exact Posted.queue_behind ((hended hd).2 ▸ (comeOnline_posted u).posted) hroom
    · rw [comeOnline_writing (hrsw ▸ hw), hrsw]
    · exact hrsw ▸ comeOnline_sweepEvaluated (s := u) (by rw [hrsw]; exact hw)
    · rw [comeOnline_stops (by rw [hrsw]; exact hw) ((sweepTarget_congr hrsw).trans ht) (by rw [hrsw]; exact hahead), hrsw, hu]
      rfl

/-! ## DEFINE_REGION (R93) -/

theorem overlapsRegion_eq_false (base size : Nat) (r : Region) : overlapsRegion base size r = false ↔
    ∀ i, r.info = some i → i.base + i.size ≤ base ∨ base + size ≤ i.base := by
  unfold overlapsRegion
  cases r.info with
  | none => simp
  | some i =>
    simp only [Option.any_some, decide_eq_false_iff_not, Option.some.injEq, forall_eq']
    omega

/-- The range that DEFINE_REGION allows, in whole 64 KiB units (R93). -/
theorem rangeAllowed_iff (u : Rsw) (base units : Nat) : rangeAllowed u base (units * Config.regionUnit) = true ↔
    base % 65536 = 0 ∧ units ≠ 0 ∧ base + units * 65536 ≤ 2 ^ 40 ∧
    ∀ j i, (u.regions.get j).info = some i → i.base + i.size ≤ base ∨ base + units * 65536 ≤ i.base := by
  unfold rangeAllowed
  rw [Bool.and_eq_true, Table.all_iff, decide_eq_true_eq]
  simp only [Config.regionUnit, Config.spaceBytes, Bool.not_eq_true', overlapsRegion_eq_false]
  refine ⟨fun ⟨hrange, hall⟩ => ⟨hrange.1, by omega, hrange.2.2, hall⟩,
    fun ⟨hbase, hunits, hend, hall⟩ => ⟨⟨hbase, by omega, hend⟩, hall⟩⟩

theorem defineModeArgument_none {b : Byte} (h : b ≠ 0#8 ∧ b ≠ 1#8) : defineModeArgument b = none := by
  rw [defineModeArgument, if_neg h.1, if_neg h.2]

theorem defineRegion_refused {s : State} {index : Byte} {base : BitVec 40} {size : BitVec 32} {mode : Byte}
    (pattern : Table Byte 8)
    (h : ∀ k sweep, indexArgument index = some k → defineModeArgument mode = some sweep → s.rsw.regions.get k = .absent →
      rangeAllowed s.rsw base.toNat (size.toNat * Config.regionUnit) = true → False) :
    defineRegion index base size mode pattern s = answer .refusedArgument s := by
  obtain h' | ⟨k, sweep, hk, hsweep, habsent, hrange, -⟩ := defineRegion_cases index base size mode pattern s
  · exact h'
  · exact (h k sweep hk hsweep habsent hrange).elim

theorem defineRegion_done {s : State} {index : Byte} {base : BitVec 40} {size : BitVec 32} {mode : Byte}
    (pattern : Table Byte 8) {k : Fin 8} {sweep : Bool} (hk : indexArgument index = some k)
    (hsweep : defineModeArgument mode = some sweep) (habsent : s.rsw.regions.get k = .absent)
    (hrange : rangeAllowed s.rsw base.toNat (size.toNat * Config.regionUnit) = true) {put : State}
    (hput : put = putRegion k (definedRegion base.toNat (size.toNat * Config.regionUnit) sweep pattern) s) :
    defineRegion index base size mode pattern s =
      answer .done (if sweep then settleSweep (evaluateAfterDefine put) else put) := by
  subst hput
  rw [defineRegion]
  dsimp only
  rw [hk, hsweep]
  dsimp only
  rw [if_pos ⟨habsent, hrange⟩]

/-- Region `k` sweeps with watermark `w`, and no Ahead List record stands at the watermark. -/
structure Untouched (k : Fin 8) (info : RegionInfo) (w : Nat) (s : State) : Prop where
  region : s.rsw.regions.get k = .sweeping info w
  ahead : ∀ r ∈ s.rsw.ahead, r.line ≠ w

/-- An evaluation passes no line of a region whose watermark has no Ahead List record (R104). -/
theorem Evaluates.untouched {s t : State} (h : Evaluates s t) {k : Fin 8} {info : RegionInfo} {w : Nat}
    (hs : Untouched k info w s) : Untouched k info w t := by
  induction h with
  | rests s _ => exact ⟨hs.region, hs.ahead⟩
  | stops s _ _ _ _ _ => exact ⟨hs.region, hs.ahead⟩
  | passes s t j line i _ _ hj hw _ ih =>
    refine ih ⟨?_, fun r hr => hs.ahead r (List.mem_filter.1 hr).1⟩
    have hne : j ≠ k := by
      rintro rfl
      rw [hs.region] at hj
      obtain ⟨-, rfl⟩ := Region.sweeping.inj hj
      obtain ⟨r, hr, hline⟩ := List.any_eq_true.1 hw
      exact hs.ahead r hr (by simp only [Bool.and_eq_true, beq_iff_eq] at hline; exact hline.1)
    exact (Table.get_set_ne _ hne _).trans hs.region

theorem judgeUrgency_cases (s : State) : judgeUrgency s = s ∨ judgeUrgency s = evaluate s := by
  unfold judgeUrgency
  split
  · split
    · exact .inr rfl
    · exact .inl rfl
  all_goals exact .inl rfl

theorem Untouched.settled {k : Fin 8} {info : RegionInfo} {w : Nat} {s : State} (hs : Untouched k info w s) :
    Untouched k info w (settleSweep s) := by
  have hjudged : Untouched k info w (judgeUrgency (judgeStarvation s)) := by
    obtain h | h := judgeUrgency_cases (judgeStarvation s)
    · rw [h]; exact ⟨hs.region, hs.ahead⟩
    · rw [h]; exact (evaluate_evaluates _).untouched ⟨hs.region, hs.ahead⟩
  exact ⟨hjudged.region, hjudged.ahead⟩

theorem evaluateAfterDefine_online {s : State} (hm : s.mc.mode = .online)
    (he : s.rsw.engine = .idle ∨ (∃ j l, s.rsw.engine = .ready j l) ∨ ∃ j l, s.rsw.engine = .blocked j l) :
    evaluateAfterDefine s = evaluate s := by
  rw [evaluateAfterDefine, if_pos hm]
  obtain he | ⟨j, l, he⟩ | ⟨j, l, he⟩ := he <;> simp only [he]

theorem evaluateAfterDefine_other {s : State}
    (h : s.mc.mode ≠ .online ∨ (∃ j l, s.rsw.engine = .writing j l) ∨ ∃ u, s.rsw.engine = .pacing u) :
    evaluateAfterDefine s = s := by
  unfold evaluateAfterDefine
  split
  · rename_i hm
    obtain h | ⟨j, l, he⟩ | ⟨u, he⟩ := h
    · exact absurd hm h
    · simp only [he]
    · simp only [he]
  · rfl

theorem Untouched.defined {k : Fin 8} {info : RegionInfo} {w : Nat} {s : State} (hs : Untouched k info w s) :
    Untouched k info w (settleSweep (evaluateAfterDefine s)) := by
  refine Untouched.settled ?_
  by_cases h : s.mc.mode ≠ .online ∨ (∃ j l, s.rsw.engine = .writing j l) ∨ ∃ u, s.rsw.engine = .pacing u
  · rw [evaluateAfterDefine_other h]; exact hs
  · have he : s.rsw.engine = .idle ∨ (∃ j l, s.rsw.engine = .ready j l) ∨ ∃ j l, s.rsw.engine = .blocked j l := by
      cases he : s.rsw.engine <;> simp_all
    rw [evaluateAfterDefine_online (by_contra fun hm => h (.inl hm)) he]
    exact (evaluate_evaluates s).untouched hs

/-- The lowest index is the one that satisfies the property with none below it. -/
theorem findLowest_eq_some {α : Type} {n : Nat} {t : Table α n} {p : α → Bool} {i : Fin n}
    (h : p (t.get i) = true) (hlt : ∀ j, j < i → p (t.get j) = false) : t.findLowest p = some i := by
  cases hj : t.findLowest p with
  | none => rw [Table.findLowest_none hj i] at h; cases h
  | some j =>
    obtain hji | rfl | hij := lt_trichotomy j i
    · exact absurd (Table.findLowest_some hj) (by rw [hlt j hji]; nofun)
    · rfl
    · exact absurd h (by rw [Table.findLowest_lt hj hij]; nofun)

/-- The only SWEEPING region is the target of an evaluation (R103). -/
theorem sweepTarget_only {s : State} {k : Fin 8} {info : RegionInfo} {w : Nat} (hk : s.rsw.regions.get k = .sweeping info w)
    (hothers : ∀ j, j ≠ k → isSweeping (s.rsw.regions.get j) = false) : sweepTarget s = some (k, w) := by
  rw [sweepTarget, findLowest_eq_some (i := k) (by rw [hk]; rfl) fun j hj => hothers j hj.ne]
  dsimp only
  rw [hk]

/-- An engine at rest evaluates once a SWEEP region is defined in ONLINE (R103). -/
theorem defined_sweepEvaluated {s : State} (hm : s.mc.mode = .online)
    (he : s.rsw.engine = .idle ∨ (∃ j l, s.rsw.engine = .ready j l) ∨ ∃ j l, s.rsw.engine = .blocked j l) :
    SweepEvaluated s.rsw .online (settleSweep (evaluateAfterDefine s)) := by
  rw [evaluateAfterDefine_online hm he, ← hm]
  exact .of_evaluate (by simp) (settleSweep_rsw_of_not_pacing (evaluate_engine_ne_pacing s)).1

/-- A WRITING or pacing engine, and any engine outside ONLINE, is left to its work (R103, R111). -/
theorem defined_left {s : State}
    (h : (∃ j l, s.rsw.engine = .writing j l) ∨ (s.mc.mode ≠ .online ∧ ∀ u, s.rsw.engine ≠ .pacing u) ∨
      ((∃ u, s.rsw.engine = .pacing u) ∧ s.rsw.ahead.length < s.mli.items.sweepUrgentLevel.toNat ∧ s.rsw.ahead.length < 48)) :
    (settleSweep (evaluateAfterDefine s)).rsw = s.rsw ∧ (settleSweep (evaluateAfterDefine s)).nu = s.nu := by
  obtain ⟨j, l, hw⟩ | ⟨hm, hp⟩ | ⟨hp, hlevel, hroom⟩ := h
  · rw [evaluateAfterDefine_other (.inr (.inl ⟨j, l, hw⟩))]
    exact settleSweep_rsw_of_not_pacing fun u hu => nomatch hw.symm.trans hu
  · rw [evaluateAfterDefine_other (.inl hm)]
    exact settleSweep_rsw_of_not_pacing hp
  · rw [evaluateAfterDefine_other (.inr (.inr hp))]
    exact settleSweep_rsw_of_room hlevel hroom

/-- An IDLE engine goes to the new region's base when there is no other SWEEPING region, no record and no claim there. -/
theorem defined_idle {s : State} {k : Fin 8} {info : RegionInfo} {w : Nat} (he : s.rsw.engine = .idle)
    (hk : s.rsw.regions.get k = .sweeping info w)
    (h : s.mc.mode ≠ .online ∨ ((∀ j, j ≠ k → isSweeping (s.rsw.regions.get j) = false) ∧ s.rsw.ahead = [] ∧
      claimed s.mp w = false)) :
    (settleSweep (evaluateAfterDefine s)).rsw =
      { s.rsw with engine := if s.mc.mode = .online then .ready k w else .idle } ∧
    (settleSweep (evaluateAfterDefine s)).nu = s.nu := by
  by_cases hm : s.mc.mode = .online
  · obtain ⟨hothers, hahead, hclaim⟩ := h.resolve_left (not_not_intro hm)
    have hstops := (evaluate_evaluates s).of_stops hm (sweepTarget_only hk hothers) (by simp [writtenAhead, hahead])
    rw [evaluateAfterDefine_online hm (.inl he), if_pos hm]
    obtain ⟨hrsw, hnu⟩ := settleSweep_rsw_of_not_pacing (evaluate_engine_ne_pacing s)
    rw [hrsw, hnu, hstops]
    simp [hclaim]
  · obtain ⟨hrsw, hnu⟩ := defined_left (.inr (.inl ⟨hm, fun u hu => nomatch he.symm.trans hu⟩))
    rw [hrsw, hnu, if_neg hm, ← he]
    exact ⟨rfl, rfl⟩

/-- Settles O38. -/
theorem defineRegionMakesTheRecordPresent : Obligations.DefineRegionMakesTheRecordPresent := by
  intro index base size mode pattern s₀ s hs
  rw [exec_frameAct (c := .defineRegion index base size mode pattern) rfl, onFrame_heard hs]
  refine ⟨fun h => ?_, fun k hk habsent hbase hsize hend hapart => ?_⟩
  · rw [defineRegion_refused pattern fun k sweep hk hsweep habsent hrange => ?_]
    · rfl
    obtain ⟨hbase, hsize, hend, hapart⟩ := (rangeAllowed_iff _ _ _).1 hrange
    obtain h | ⟨j, hj, hpresent⟩ | h | rfl | h | h | ⟨j, i, hi, hlo, hhi⟩ := h
    · rw [indexArgument_eq_none h] at hk; cases hk
    · rw [indexArgument_eq_some hj] at hk; cases hk; exact hpresent habsent
    · exact h hbase
    · exact hsize rfl
    · omega
    · rw [defineModeArgument_none h] at hsweep; cases hsweep
    · have := hapart j i hi; omega
  · have hunits : size.toNat ≠ 0 := fun h => hsize (BitVec.eq_of_toNat_eq h)
    have hrange := (rangeAllowed_iff s.rsw base.toNat size.toNat).2 ⟨hbase, hunits, hend, hapart⟩
    refine ⟨?_, ?_⟩
    · rintro rfl
      rw [defineRegion_done pattern (sweep := false) (indexArgument_eq_some hk) rfl habsent hrange rfl]
      rfl
    · rintro rfl
      have hdone := defineRegion_done pattern (sweep := true) (mode := 1#8) (indexArgument_eq_some hk) rfl habsent hrange rfl
      have honly := defineRegion_only index base size 1#8 pattern s
      rw [if_pos rfl] at hdone
      rw [hdone] at honly ⊢
      have hinfo : definedRegion base.toNat (size.toNat * Config.regionUnit) true pattern = .sweeping
        { base := base.toNat, size := size.toNat * 65536, pattern := pattern, faults := 0#16 } base.toNat := rfl
      rw [hinfo] at honly ⊢
      generalize ({ base := base.toNat, size := size.toNat * 65536, pattern := pattern, faults := 0#16 } : RegionInfo) = info
        at honly ⊢
      have hget : (putRegion k (.sweeping info base.toNat) s).rsw.regions.get k = .sweeping info base.toNat :=
        Table.get_set_self _ _ _
      refine ⟨_, rfl, ?_, ?_, ?_, honly, fun haway => ?_, ?_, fun he h => ?_⟩
      · simp [answer, answerWith, answerFrame, putRegion]
      · simp [answer, answerWith, answerFrame, putRegion]
      · simp [answer, answerWith, answerFrame, putRegion]
      · refine (Untouched.defined ⟨hget, fun r hr hline => ?_⟩).region
        have := haway r hr
        omega
      · rintro sweep rfl
        exact ⟨fun hm he => defined_sweepEvaluated (s := putRegion k (.sweeping info base.toNat) s) hm he, fun h => defined_left h⟩
      · refine defined_idle he hget (h.imp_right fun ⟨hothers, hahead, hclaim⟩ => ⟨fun j hj => ?_, hahead, hclaim⟩)
        rw [putRegion, Table.get_set_ne _ hj.symm]
        exact hothers j

/-! ## The warm reset (R157) -/

theorem abortLong_none {s : State} (h : s.mc.running = .none) : abortLong s = s := by simp only [abortLong, h]

theorem abortLong_quiesce {s : State} (h : s.mc.running = .quiesce) : abortLong s = endLong .quiesce .aborted s := by
  simp only [abortLong, h]

theorem abortLong_flush {s : State} {waitSet : FinSet 32} {losses : Bool} (h : s.mc.running = .flush waitSet losses) :
    abortLong s = endLong .flush .aborted s := by
  simp only [abortLong, h]

/-- The state whose stall the warm reset judges. -/
def clearedState (s : State) : State := clearTraffic (abortResponses (abortLong s))

theorem warmReset_eq (s : State) :
    warmReset s = if orphansSlot s then judgeStall (clearedState s) else clearedState s := rfl

theorem warmReset_only (s : State) :
    warmReset s = { clearedState s with mp := (warmReset s).mp, nu := (warmReset s).nu } := by
  rw [warmReset_eq]
  split
  · rw [judgeStall_only]
  · rfl

theorem abortLong_only (s : State) : abortLong s = { s with mc := (abortLong s).mc, nu := (abortLong s).nu } := by
  unfold abortLong
  split <;> rfl

theorem judgeStall_stalled {s : State} (hall : s.mp.slots.cells.all slotOrphaned = true) (hmark : s.mp.stallMark = false) :
    judgeStall s = post .memoryStalled { s with mp := { s.mp with stallMark := true } } := by
  rw [judgeStall, hall, hmark]; rfl

theorem judgeStall_not_stalled {s : State} (h : s.mp.slots.cells.all slotOrphaned = false ∨ s.mp.stallMark = true) :
    judgeStall s = s := by
  rw [judgeStall, if_neg]
  obtain h | h := h <;> simp [h]

theorem clearedState_mp (s : State) : (clearedState s).mp = { s.mp with slots := s.mp.slots.map slotAfterReset, turn := .write } := by
  rw [clearedState, abortLong_only]
  rfl

theorem clearedState_all_orphaned (s : State) :
    (clearedState s).mp.slots.cells.all slotOrphaned = true ↔ ∀ i, s.mp.slots.get i ≠ .free := by
  rw [Table.all_iff, clearedState_mp]
  refine forall_congr' fun i => ?_
  rw [Table.get_map]
  cases s.mp.slots.get i <;> simp [slotAfterReset, slotOrphaned]

theorem orphansSlot_iff (s : State) : orphansSlot s = true ↔ ∃ i, slotBusy (s.mp.slots.get i) = true :=
  Table.any_iff s.mp.slots slotBusy

/-- A warm reset that orphans the last BUSY slots stalls the memory link (R127, R157). -/
theorem warmReset_stalls {s : State} (hbusy : ∃ i, slotBusy (s.mp.slots.get i) = true)
    (hfull : ∀ i, s.mp.slots.get i ≠ .free) (hmark : s.mp.stallMark = false) :
    (warmReset s).nu = postToNu .memoryStalled (abortLong s).nu ∧ (warmReset s).mp.stallMark = true := by
  rw [warmReset_eq, if_pos ((orphansSlot_iff s).2 hbusy),
    judgeStall_stalled ((clearedState_all_orphaned s).2 hfull) (by rw [clearedState_mp]; exact hmark)]
  exact ⟨rfl, rfl⟩

theorem warmReset_stalls_not {s : State}
    (h : (∀ i, slotBusy (s.mp.slots.get i) = false) ∨ (∃ i, s.mp.slots.get i = .free) ∨ s.mp.stallMark = true) :
    (warmReset s).nu = (abortLong s).nu ∧ (warmReset s).mp.stallMark = s.mp.stallMark := by
  have hcleared : (clearedState s).nu = (abortLong s).nu ∧ (clearedState s).mp.stallMark = s.mp.stallMark :=
    ⟨rfl, by rw [clearedState_mp]⟩
  rw [warmReset_eq]
  split
  · rename_i horphans
    obtain ⟨i, hi⟩ := (orphansSlot_iff s).1 horphans
    rwa [judgeStall_not_stalled]
    obtain h | ⟨j, hj⟩ | h := h
    · rw [h i] at hi; cases hi
    · rw [← Bool.not_eq_true, clearedState_all_orphaned]
      exact .inl fun hall => hall j hj
    · exact .inr (by rw [clearedState_mp]; exact h)
  · exact hcleared

theorem warmReset_link (s : State) : (warmReset s).mp.sendOrder = s.mp.sendOrder ∧ (warmReset s).mp.turn = .write := by
  have hcleared : (clearedState s).mp.sendOrder = s.mp.sendOrder ∧ (clearedState s).mp.turn = .write := by
    rw [clearedState_mp]; exact ⟨rfl, rfl⟩
  rw [warmReset_eq]
  split
  · obtain h | ⟨-, -, h⟩ := judgeStall_cases (clearedState s) <;> rw [h] <;> exact hcleared
  · exact hcleared

theorem abortLong_mc (s : State) :
    (s.mc.running = .none → (abortLong s).mc.last = s.mc.last ∧ (abortLong s).nu = s.nu) ∧
    (s.mc.running = .quiesce → (abortLong s).mc.last = some (.quiesce, .aborted) ∧
      (abortLong s).nu = postToNu (.commandDone .quiesce .aborted) s.nu) ∧
    (∀ w l, s.mc.running = .flush w l → (abortLong s).mc.last = some (.flush, .aborted) ∧
      (abortLong s).nu = postToNu (.commandDone .flush .aborted) s.nu) :=
  ⟨fun h => by rw [abortLong_none h]; exact ⟨rfl, rfl⟩, fun h => by rw [abortLong_quiesce h]; exact ⟨rfl, rfl⟩,
    fun w l h => by rw [abortLong_flush h]; exact ⟨rfl, rfl⟩⟩

/-- What the warm reset clears and keeps, by the block (R157). -/
theorem clearedState_frame (s : State) : (clearedState s).out = { s.out with
      responses := s.out.responses ++ (waitingRequests s).map (fun p => abortedResponse p.1 p.2) } ∧
    (clearedState s).rqp = { s.rqp with intake := [], tags := [], wrt := Table.fill 16 none } ∧
    (clearedState s).ord = { s.ord with
      sync := Table.fill 16 none, flags := FinSet.empty 16, syncReady := [], discards := [] } ∧
    (clearedState s).mli = s.mli ∧ (clearedState s).mc.last = (abortLong s).mc.last := by
  rw [clearedState]
  refine ⟨?_, ?_, ?_, ?_, rfl⟩ <;> rw [abortLong_only] <;> rfl

/-- Settles O46. -/
theorem warmResetClearsTheTraffic : Obligations.WarmResetClearsTheTraffic := by
  intro s₀ s hs
  obtain ⟨hmode, hrunning⟩ := warmReset_mc s
  obtain ⟨hout, hrqp, hord, hmli, hlast⟩ := clearedState_frame s
  obtain ⟨hsend, hturn⟩ := warmReset_link s
  obtain ⟨hnone, hquiesce, hflush⟩ := abortLong_mc s
  have hshape := warmReset_only s
  replace hout := (congrArg State.out hshape).trans hout
  replace hrqp := (congrArg State.rqp hshape).trans hrqp
  replace hord := (congrArg State.ord hshape).trans hord
  replace hmli := (congrArg State.mli hshape).trans hmli
  replace hlast := (congrArg (fun t => t.mc.last) hshape).trans hlast
  have hlat : (warmReset s).lat = Lat.reset := congrArg State.lat hshape
  have hrdp : (warmReset s).rdp = Rdp.reset := congrArg State.rdp hshape
  have hrsw := warmReset_rsw s
  refine ⟨answer .done (warmReset s), (abortLong s).nu, exec_resetBridge_heard hs, hmode, hrunning, congrArg Outputs.responses hout,
    (congrArg (fun o : Outputs => o.answers ++ [({ status := .done, fields := .nothing } : Answer)]) hout :),
    (congrArg Outputs.memory hout :), congrArg Rqp.intake hrqp, congrArg Rqp.tags hrqp,
    fun w => ?_, fun i => ?_, congrArg Lat.issueQueue hlat, congrArg Lat.evictMark hlat, congrArg State.starvation hshape,
    fun c => ?_, fun r => ?_, fun r => ?_, (congrArg OrderUnit.rules hord :),
    (congrArg Rsw.regions hrsw :), (congrArg Rsw.engine hrsw :),
    (congrArg Rsw.ahead hrsw :), fun i => ?_, hsend, hturn, warmReset_items s, (congrArg Mli.brokenFrame hmli :), warmReset_enables s,
    fun h => ?_, fun h => ?_, fun w l h => ?_, warmReset_stalls, warmReset_stalls_not⟩
  · show (warmReset s).rqp.wrt.get w = none
    rw [hrqp]; exact Table.get_fill _ _
  · show (warmReset s).lat.entries.get i = none
    rw [hlat]; exact Table.get_fill _ _
  · show (warmReset s).rdp.contexts.get c = none
    rw [hrdp]; exact Table.get_fill _ _
  · show (warmReset s).ord.sync.get r = none
    rw [hord]; exact Table.get_fill _ _
  · show (warmReset s).ord.flags.has r = false
    rw [hord]; exact FinSet.has_empty _
  · show (warmReset s).mp.slots.get i = slotAfterReset (s.mp.slots.get i)
    rw [warmReset_slots, Table.get_map]
  · exact ⟨hlast.trans (hnone h).1, (hnone h).2⟩
  · exact ⟨hlast.trans (hquiesce h).1, (hquiesce h).2⟩
  · exact ⟨hlast.trans (hflush w l h).1, (hflush w l h).2⟩

end Sys2Proof.Machine
end

section
/-! The events that need no look at the table's entries together: deadlines, the end of a pacing, of a sweep write and of a fetch, late
responses and the SWEEP grant. -/

namespace Sys2Proof.Machine

/-! ## What posting leaves of the counters -/

theorem postToNu_counters (body : NoticeBody) (u : Nu) :
    (postToNu body u).counters = { u.counters with noticesLost := (postToNu body u).counters.noticesLost } := by
  unfold postToNu
  split <;> rfl

theorem postAll_counters (bodies : List NoticeBody) (u : Nu) :
    (postAll bodies u).counters = { u.counters with noticesLost := (postAll bodies u).counters.noticesLost } := by
  induction bodies generalizing u with
  | nil => rfl
  | cons body rest ih => rw [postAll_cons, ih, postToNu_counters]

theorem PostedOnly.counters {kinds : List Nat} {u v : Nu} (h : PostedOnly kinds u v) :
    v.counters = { u.counters with noticesLost := v.counters.noticesLost } := by
  obtain ⟨bodies, -, rfl⟩ := h
  exact postAll_counters bodies u

/-! ## GATHER_DEADLINE (R12) -/

theorem closeIn_gathering {cause : CloseCause} (hc : cause ≠ .evict) {i : Fin 32} {l : Lat} {e : Entry}
    (he : l.entries.get i = some e) (hg : e.state = .gathering) : closeIn cause i l = { l with
      entries := l.entries.set i
        (some { e with state := .closed, closeNumber := some (newCloseNumber l), deadline := none }),
      issueQueue := l.issueQueue ++ [i] } := by
  rw [closeIn, he]
  dsimp only
  rw [if_pos ((isGathering_iff e).2 hg), if_neg hc]

/-- Settles O28. -/
theorem gatherDeadlineClosesTheEntry : Obligations.GatherDeadlineClosesTheEntry := by
  intro i s hs
  have hexec : exec (.gatherDeadline i) s = .next (gatherExpires i s) := exec_eventAct rfl hs
  refine ⟨fun e deadline he hg hd => ?_, fun h => ?_⟩
  · have hof : gatherDeadlineOf s.lat i = some deadline := by
      rw [gatherDeadlineOf, he]
      dsimp only
      rw [if_pos ((isGathering_iff e).2 hg), hd]
    refine ⟨gatherExpires i s, newCloseNumber s.lat, hexec, ?_, fun j x m hx hm => lt_newCloseNumber hx hm⟩
    rw [gatherExpires, hof]
    dsimp only
    rw [closeEntry, atTime_lat, closeIn_gathering (by nofun) he hg]
    rfl
  · have hof : gatherDeadlineOf s.lat i = none := by
      unfold gatherDeadlineOf
      split
      · rename_i e he
        split
        · rename_i hg
          by_contra hd
          obtain ⟨deadline, hd⟩ := Option.ne_none_iff_exists'.1 hd
          exact h e deadline he ((isGathering_iff e).1 hg) hd
        · rfl
      · rfl
    rw [hexec, gatherExpires, hof]

/-! ## SLOT_DEADLINE (R125, R127) -/

/-- What a SLOT_DEADLINE does after its owner has been told and the stall judged keeps the slots and posts behind it. -/
theorem expireSlot_after {s : State} {slot : Fin 16} {owner : Owner} {line : Nat} {sent : Bool} {deadline : Nat}
    (h : s.mp.slots.get slot = .busy owner line sent deadline) {t : State} (ht : t = toldOrphan slot owner line sent deadline s) :
    (expireSlot slot s).mp = t.mp ∧ (expireSlot slot s).now = t.now ∧ PostedOnly [7, 10] t.nu (expireSlot slot s).nu := by
  subst ht
  rw [expireSlot_busy h]
  split
  · exact ⟨by simp, by simp, afterEntryEnd_posted _⟩
  · exact ⟨by simp, by simp, ((testDrain_posted _).mono (by simp)).trans ((settleSweep_posted _).mono (by simp))⟩

theorem ownerTimeout_mp (owner : Owner) (s : State) :
    (ownerTimeout owner s).mp = s.mp ∧ (ownerTimeout owner s).now = s.now := by
  cases owner <;> simp [ownerTimeout]

theorem judgeStall_found (s : State) : (judgeStall s).mp = { s.mp with
      stallMark := s.mp.stallMark || s.mp.slots.cells.all slotOrphaned } ∧
    (judgeStall s).nu = postAll (if s.mp.stallMark = false ∧ s.mp.slots.cells.all slotOrphaned = true then [.memoryStalled] else [])
      s.nu := by
  by_cases h : s.mp.stallMark = false ∧ s.mp.slots.cells.all slotOrphaned = true
  · rw [judgeStall_stalled h.2 h.1, if_pos h, h.2, Bool.or_true]
    exact ⟨rfl, rfl⟩
  · have hnot : s.mp.slots.cells.all slotOrphaned = false ∨ s.mp.stallMark = true := by
      rwa [not_and_or, Bool.not_eq_false, Bool.not_eq_true, or_comm] at h
    have hmark : (s.mp.stallMark || s.mp.slots.cells.all slotOrphaned) = s.mp.stallMark := by
      obtain hnot | hnot := hnot <;> simp [hnot]
    rw [judgeStall_not_stalled hnot, if_neg h, hmark]
    exact ⟨rfl, rfl⟩

theorem PostedOnly.bodies_ne {kinds : List Nat} {u v : Nu} (h : PostedOnly kinds u v) {body : NoticeBody}
    (hk : noticeKind body ∉ kinds) : ∃ bodies, body ∉ bodies ∧ v = postAll bodies u := by
  obtain ⟨bodies, hb, rfl⟩ := h
  exact ⟨bodies, fun hmem => hk (hb _ hmem), rfl⟩

/-- Settles O27. -/
theorem deadlineOrphansTheSlot : Obligations.DeadlineOrphansTheSlot := by
  intro n s hs
  have hexec : exec (.slotDeadline n) s = .next (expireSlot n s) := exec_eventAct rfl hs
  refine ⟨fun owner line sent deadline h => ⟨expireSlot n s, hexec, ?_⟩, fun h => by rw [hexec, expireSlot_not_busy h]⟩
  obtain ⟨hmp, hnow, hafter⟩ := expireSlot_after h rfl
  obtain ⟨howner, hclock⟩ := ownerTimeout_mp owner (orphanSlot n owner line sent deadline s)
  obtain ⟨hstall, hposted⟩ := judgeStall_found (ownerTimeout owner (orphanSlot n owner line sent deadline s))
  obtain ⟨before, hbefore, hnu⟩ := (ownerTimeout_posted owner (orphanSlot n owner line sent deadline s)).bodies_ne
    (body := .memoryStalled) (by simp [noticeKind])
  obtain ⟨after, hlater, hnu'⟩ := hafter.bodies_ne (body := .memoryStalled) (by simp [noticeKind])
  rw [howner] at hstall hposted
  have hmp' := hmp.trans hstall
  rw [hmp']
  refine ⟨rfl, rfl, rfl, ?_, rfl, before, after, by simp [hbefore, hlater], ?_⟩
  · rw [hnow, toldOrphan, judgeStall_only]; exact hclock
  · rw [hnu', toldOrphan, hposted, hnu, postAll_append, postAll_append]
    simp only [Table.all_iff]
    rfl

/-! ## A late response (R123) -/

/-- A late response counted and reported, its slot FREE: the state in which its claim ends. -/
def reportedLate (slot : Fin 16) (purpose : Purpose) (line : Nat) (s : State) : State :=
  freeSlot slot (post (.lateResponse slot line purpose) (countOne .lateResponses s))

theorem lateResponse_eq (slot : Fin 16) (purpose : Purpose) (line : Nat) (s : State) :
    lateResponse slot purpose line s = settleSweep (claimEnded line (reportedLate slot purpose line s)) := rfl

theorem reportedLate_nu (slot : Fin 16) (purpose : Purpose) (line : Nat) (s : State) :
    (reportedLate slot purpose line s).nu = postToNu (.lateResponse slot line purpose)
      { s.nu with counters := { s.nu.counters with lateResponses := countUp s.nu.counters.lateResponses } } := rfl

theorem lateResponse_postedOnly (slot : Fin 16) (purpose : Purpose) (line : Nat) (s : State) :
    PostedOnly [7] (reportedLate slot purpose line s).nu (lateResponse slot purpose line s).nu :=
  (claimEnded_posted line _).trans (settleSweep_posted _)

/-- Settles O22. -/
theorem lateResponseFreesItsSlot : Obligations.LateResponseFreesItsSlot := by
  intro time r purpose line s hs hslot
  have hposted := lateResponse_postedOnly r.slot purpose line (atTime time s)
  refine ⟨lateResponse r.slot purpose line (atTime time s), ?_, ?_, ?_, ?_, ?_, ?_, ?_, ?_, ?_, ?_, ?_,
    fun hroom => hposted.posted.queue_behind hroom, fun hfull => ?_, ?_, fun he => ?_⟩
  · rw [exec_memoryResponse_released hs, receive_late (by exact hslot)]
  iterate 9 · simp [lateResponse]
  · rw [hposted.counters, reportedLate_nu, postToNu_counters]; rfl
  · have hsame : (reportedLate r.slot purpose line (atTime time s)).nu.queue = s.nu.queue := postAll_queue_full [_] hfull
    exact (hposted.posted.queue_full (hsame ▸ hfull)).trans hsame
  · exact claimEndIsFound (u := reportedLate r.slot purpose line (atTime time s)) rfl (by simp [reportedLate]) (by simp [reportedLate])
  · rw [lateResponse_eq, claimEnded_other]
    · refine settleSweep_rsw_of_not_pacing fun w hw => ?_
      obtain he | ⟨k', l, he⟩ | ⟨k', l, he⟩ := he <;> exact nomatch he.symm.trans hw
    · intro k hk
      obtain he | ⟨k', l, he⟩ | ⟨k', l, he⟩ := he <;> exact nomatch he.symm.trans hk

/-! ## A fetch's data (R33) -/

theorem readData_done {r : MemoryResponse} {bytes : Table Byte 64} (hdata : r.data = some bytes)
    (hstatus : r.status = 0#2 ∨ r.status = 1#2) : readData r = some (bytes, decide (r.status = 1#2)) := by
  obtain h | h := hstatus <;> simp [readData, memoryStatusOf, h, hdata]

theorem fillCells_get (cells : LineCells) (source : Fin 64 → Byte) (k : Fin 64) :
    (fillCells cells source).get k = match cells.get k with
      | .written b => .written b
      | _ => .filled (source k) := by
  rw [fillCells, Table.get_ofFn]
  cases cells.get k <;> rfl

/-- Settles O23. -/
theorem fetchIsMergedAndWritten : Obligations.FetchIsMergedAndWritten := by
  intro time r bytes i e line deadline s hs hslot he hdata hstatus
  refine ⟨_, fillCells e.cells bytes.get, exec_memoryResponse_released hs time r, fillCells_get e.cells bytes.get, ?_⟩
  rw [receive_fetch (by exact hslot), fetchReturned_merged (readData_done hdata hstatus) (by exact he)]
  obtain h | h := hstatus <;> simp only [h] <;> rfl

/-! ## A grant to the SWEEP class (R106, R118, R119) -/

theorem grantOne_granted {s : State} {slot : Fin 16} {cls : ArbiterClass} (hslot : lowestFreeSlot s.mp = some slot)
    (hcls : grantedClass s = some cls) : grantOne s = settleSweep (grantTo slot cls s) := by
  rw [grantOne, hslot, hcls]

theorem grantOne_none {s : State} (h : lowestFreeSlot s.mp = none ∨ grantedClass s = none) : grantOne s = s := by
  unfold grantOne
  split
  · rename_i hslot hcls
    obtain h | h := h
    · exact nomatch h.symm.trans hslot
    · exact nomatch h.symm.trans hcls
  · rfl

theorem grantSweep_ready {slot : Fin 16} {s : State} {k : Fin 8} {line : Nat} {info : RegionInfo}
    (he : s.rsw.engine = .ready k line) (hinfo : (s.rsw.regions.get k).info = some info) :
    grantSweep slot s = setEngine (.writing k line)
      (engageSlot slot .sweepEngine line (.lineWrite slot line (patternLine info.pattern)) s) := by
  simp only [grantSweep, he, hinfo]

theorem grantTo_sweep (slot : Fin 16) (s : State) : grantTo slot .sweep s =
    { grantSweep slot s with mp := { (grantSweep slot s).mp with turn := .write } } := rfl

/-- Settles O17. -/
theorem grantServesTheSweep : Obligations.GrantServesTheSweep := by
  intro time s hs
  have hexec : exec (.grant time) s = .next (grantOne (atTime time s)) := exec_eventAct (c := .grant time) rfl hs
  refine ⟨fun h => ?_, fun n k line info hslot hcls he hinfo => ?_⟩
  · rw [hexec, grantOne_none (s := atTime time s) h]; rfl
  · refine ⟨_, patternLine info.pattern, hexec, ?_⟩
    rw [grantOne_granted (s := atTime time s) hslot hcls, grantTo_sweep, grantSweep_ready (s := atTime time s) he hinfo,
      settleSweep_of_not_pacing (fun u (hu : Engine.writing k line = .pacing u) => nomatch hu)]
    exact ⟨rfl, fun b => Table.get_ofFn _ b, rfl⟩

/-! ## The end of a pacing and of a sweep write (R107, R108) -/

theorem pacingEnds_pacing {s : State} {u : Nat} (h : s.rsw.engine = .pacing u) :
    pacingEnds s = judgeStarvation (evaluate (atTime u s)) := by
  rw [← settleSweep_of_not_pacing (evaluate_engine_ne_pacing _)]
  simp only [pacingEnds, h]

theorem pacingEnds_other {s : State} (h : ∀ u, s.rsw.engine ≠ .pacing u) : pacingEnds s = s := by
  unfold pacingEnds
  split
  · rename_i u he; exact absurd he (h u)
  all_goals rfl

/-- The faults of a region after its engine's write has ended (R107). -/
def faultedInfo (fault : Option FaultCause) (info : RegionInfo) : RegionInfo :=
  if fault.isSome then { info with faults := countFault info.faults } else info

theorem faultedInfo_eq (fault : Option FaultCause) (info : RegionInfo) : faultedInfo fault info =
    if fault.isSome ∧ info.faults ≠ 0xFFFF#16 then { info with faults := info.faults + 1#16 } else info := by
  unfold faultedInfo countFault
  cases fault with
  | none => rfl
  | some cause =>
    by_cases h : info.faults = 0xFFFF#16
    · rw [if_pos (Option.isSome_some), if_pos h, if_neg fun hn => hn.2 h]
    · rw [if_pos (Option.isSome_some), if_neg h, if_pos ⟨rfl, h⟩]

/-- The Notice Unit once the fault of a sweep write has been reported (R107). -/
def faultedNu (k : Fin 8) (line : Nat) (fault : Option FaultCause) (u : Nu) : Nu :=
  match fault with
  | some cause => postToNu (.sweepFault k line cause) u
  | none => u

/-- The state of a sweep write's end before the engine goes on: the fault is counted and reported, and the line passed. -/
def passedWrite (k : Fin 8) (line : Nat) (fault : Option FaultCause) (s : State) : State :=
  judgeStarvation (passLine k (fault.elim s (fun cause => sweepFault k line cause s)))

theorem set_set {α : Type} {n : Nat} (t : Table α n) (i : Fin n) (a b : α) : (t.set i a).set i b = t.set i b :=
  Table.ext_get fun j => by
    rw [Table.get_set, Table.get_set, Table.get_set]
    split <;> rfl

theorem set_get {α : Type} {n : Nat} (t : Table α n) (i : Fin n) : t.set i (t.get i) = t :=
  Table.ext_get fun j => by
    rw [Table.get_set]
    split
    · rename_i h; rw [h]
    · rfl

theorem faulted_found {s : State} {k : Fin 8} {info : RegionInfo} {line w : Nat} (h : s.rsw.regions.get k = .sweeping info w)
    (fault : Option FaultCause) : fault.elim s (fun cause => sweepFault k line cause s) = { s with
      rsw := { s.rsw with regions := s.rsw.regions.set k (.sweeping (faultedInfo fault info) w) },
      nu := faultedNu k line fault s.nu } := by
  cases fault with
  | none =>
    have hsame : s.rsw.regions.set k (.sweeping info w) = s.rsw.regions := by rw [← h, set_get]
    show s = { s with rsw := { s.rsw with regions := s.rsw.regions.set k (.sweeping info w) } }
    rw [hsame]
  | some cause => simp only [Option.elim, sweepFault, h, post]; rfl

theorem passedWrite_found {s : State} {k : Fin 8} {info : RegionInfo} {line : Nat}
    (h : s.rsw.regions.get k = .sweeping info line) (fault : Option FaultCause) :
    (passedWrite k line fault s).rsw = { s.rsw with
      regions := s.rsw.regions.set k (if line + 64 = info.base + info.size then .ready (faultedInfo fault info)
        else .sweeping (faultedInfo fault info) (line + 64)) } ∧
    (passedWrite k line fault s).nu = if line + 64 = info.base + info.size then
        postToNu (.sweepDone k (faultedInfo fault info).faults) (faultedNu k line fault s.nu)
      else faultedNu k line fault s.nu := by
  have hrange : (faultedInfo fault info).base = info.base ∧ (faultedInfo fault info).size = info.size := by
    unfold faultedInfo; split <;> exact ⟨rfl, rfl⟩
  rw [passedWrite, faulted_found h fault, judgeStarvation, passLine_sweeping (Table.get_set_self _ _ _), hrange.1, hrange.2]
  dsimp only
  rw [set_set]
  exact ⟨rfl, rfl⟩

theorem passedWrite_only (k : Fin 8) (line : Nat) (fault : Option FaultCause) (s : State) : passedWrite k line fault s = { s with
    rsw := (passedWrite k line fault s).rsw, nu := (passedWrite k line fault s).nu,
    starvation := (passedWrite k line fault s).starvation } := by
  unfold passedWrite
  rw [judgeStarvation, passLine_only]
  cases fault with
  | none => rfl
  | some cause => simp only [Option.elim]; rw [sweepFault_only]

@[simp] theorem passedWrite_frame (k : Fin 8) (line : Nat) (fault : Option FaultCause) (s : State) :
    (passedWrite k line fault s).rqp = s.rqp ∧ (passedWrite k line fault s).lat = s.lat ∧
    (passedWrite k line fault s).rdp = s.rdp ∧ (passedWrite k line fault s).ord = s.ord ∧
    (passedWrite k line fault s).mp = s.mp ∧ (passedWrite k line fault s).mc = s.mc ∧
    (passedWrite k line fault s).mli = s.mli ∧ (passedWrite k line fault s).now = s.now ∧
    (passedWrite k line fault s).out = s.out := by
  rw [passedWrite_only]; simp

theorem sweepGoOn_not_online {s : State} (h : s.mc.mode ≠ .online) : sweepGoOn s = setEngine .idle s := by
  rw [sweepGoOn, if_neg h]

theorem sweepGoOn_paces {s : State} (hm : s.mc.mode = .online) (hinterval : s.mli.items.sweepInterval ≠ 0#32)
    (hurgent : urgent s = false) :
    sweepGoOn s = setEngine (.pacing (s.now + s.mli.items.sweepInterval.toNat)) s := by
  rw [sweepGoOn, if_pos hm, if_neg]
  simp [hurgent, hinterval]

theorem sweepGoOn_evaluates {s : State} (hm : s.mc.mode = .online) (h : s.mli.items.sweepInterval = 0#32 ∨ urgent s = true) :
    sweepGoOn s = evaluate s := by
  rw [sweepGoOn, if_pos hm, if_pos]
  obtain h | h := h <;> simp [h]

/-- The engine that goes on stands at no line whose claim is still to end. -/
theorem claimEnded_sweepGoOn (line : Nat) (s : State) : claimEnded line (sweepGoOn s) = sweepGoOn s := by
  by_cases hb : ∃ k, (sweepGoOn s).rsw.engine = .blocked k line
  · obtain ⟨k, hk⟩ := hb
    rw [claimEnded_blocked hk]
    by_cases hm : s.mc.mode = .online
    · by_cases h : s.mli.items.sweepInterval = 0#32 ∨ urgent s = true
      · rw [sweepGoOn_evaluates hm h, evaluate_evaluate]
      · rw [not_or, Bool.not_eq_true] at h
        rw [sweepGoOn_paces hm h.1 h.2] at hk
        cases hk
    · rw [sweepGoOn_not_online hm] at hk
      cases hk
  · exact claimEnded_other fun k hk => hb ⟨k, hk⟩

/-- The end of the engine's write leaves the sweep `sweep` to go on with, at `moment`: outside ONLINE the engine is IDLE, it paces
while the sweep is not urgent, and else evaluates (R107, R108). -/
structure SweepGoesOn (sweep : Rsw) (moment : Nat) (s t : State) : Prop where
  rests : s.mc.mode ≠ .online → t.rsw = { sweep with engine := .idle }
  paces : s.mc.mode = .online → s.mli.items.sweepInterval ≠ 0#32 →
    s.rsw.ahead.length < s.mli.items.sweepUrgentLevel.toNat → s.rsw.ahead.length < 48 →
    t.rsw = { sweep with engine := .pacing (moment + s.mli.items.sweepInterval.toNat) }
  evaluates : s.mc.mode = .online →
    s.mli.items.sweepInterval = 0#32 ∨ s.mli.items.sweepUrgentLevel.toNat ≤ s.rsw.ahead.length →
    SweepEvaluated sweep .online t

/-- What settles behind the end of a sweep write leaves the engine as it went on. -/
theorem sweepGoesOn_settled {s y z : State} {sweep : Rsw} (hrsw : y.rsw = sweep) (hahead : sweep.ahead = s.rsw.ahead)
    (hmli : y.mli = s.mli) (hmc : y.mc = s.mc) (hmark : y.starvation = starving y) (hz : z.rsw = (sweepGoOn y).rsw)
    (hslots : z.mp.slots = y.mp.slots) (hzmli : z.mli = s.mli) : SweepGoesOn sweep y.now s (settleSweep z) where
  rests hm := by
    rw [sweepGoOn_not_online (by rw [hmc]; exact hm)] at hz
    rw [(settleSweep_rsw_of_not_pacing (s := z) (by rw [hz]; nofun)).1, hz, ← hrsw]
    rfl
  paces hm hinterval hlevel hroom := by
    have hurgent : urgent y = false := urgent_eq_false (by rw [hrsw, hahead, hmli]; exact hlevel)
      (by rw [hmark]; exact starving_of_room (by rw [hrsw, hahead]; exact hroom))
    rw [sweepGoOn_paces (by rw [hmc]; exact hm) (by rw [hmli]; exact hinterval) hurgent] at hz
    have hzahead : z.rsw.ahead = s.rsw.ahead := by rw [hz, ← hahead, ← hrsw]; rfl
    rw [(settleSweep_rsw_of_room (s := z) (by rw [hzahead, hzmli]; exact hlevel) (by rw [hzahead]; exact hroom)).1, hz, ← hrsw, ← hmli]
    rfl
  evaluates hm h := by
    have hgoes : sweepGoOn y = evaluate y := sweepGoOn_evaluates (by rw [hmc]; exact hm)
      (h.imp (by rw [hmli]; exact id) fun h => urgent_eq_true (.inl (by rw [hrsw, hahead, hmli]; exact h)))
    rw [hgoes] at hz
    have hfound := SweepEvaluated.of_evaluate (u := y) (t := settleSweep z) (by simp [hslots])
      ((settleSweep_rsw_of_not_pacing (s := z) (by rw [hz]; exact evaluate_engine_ne_pacing y)).1.trans hz)
    rwa [hrsw, hmc, hm] at hfound

theorem writeDone_iff (r : MemoryResponse) : writeDone r = true ↔ r.status = 0#2 ∨ r.status = 1#2 := by
  unfold writeDone memoryStatusOf
  by_cases h0 : r.status = 0#2
  · simp [h0]
  · by_cases h1 : r.status = 1#2 <;> simp [h0, h1]

theorem sweepReturned_eq {slot : Fin 16} {line : Nat} {r : MemoryResponse} {s : State} {k : Fin 8} {target : Nat}
    (he : s.rsw.engine = .writing k target) : sweepReturned slot line r s = settleSweep (testDrain
      (sweepGoOn (passedWrite k target (if writeDone r then none else some .dataFault) (freeSlot slot s)))) := by
  have hend := sweepWriteEnd_writing (s := freeSlot slot s) he (if writeDone r then none else some .dataFault)
  rw [sweepReturned, hend, claimEnded_sweepGoOn]
  rfl

theorem expireSlot_sweep {slot : Fin 16} {line : Nat} {sent : Bool} {deadline : Nat} {s : State} {k : Fin 8} {target : Nat}
    (hslot : s.mp.slots.get slot = .busy .sweepEngine line sent deadline) (he : s.rsw.engine = .writing k target) :
    expireSlot slot s = settleSweep (testDrain (judgeStall
      (sweepGoOn (passedWrite k target (some .timeout) (orphanSlot slot .sweepEngine line sent deadline s))))) := by
  rw [expireSlot_busy hslot, if_neg (by nofun), toldOrphan, ownerTimeout,
    sweepWriteEnd_writing (s := orphanSlot slot .sweepEngine line sent deadline s) he]
  rfl

/-- The end of the sweep write in `w`, which is `s` with its slot answered or orphaned: `z` is what there is to settle. -/
theorem sweepWrite_ends {s w z : State} {k : Fin 8} {line : Nat} {info : RegionInfo} {fault : Option FaultCause}
    (hk : s.rsw.regions.get k = .sweeping info line) (hw : w = { s with mp := w.mp, now := w.now })
    (hz : z.rsw = (sweepGoOn (passedWrite k line fault w)).rsw) (hslots : z.mp.slots = w.mp.slots) (hmli : z.mli = s.mli) :
    SweepGoesOn { s.rsw with regions := s.rsw.regions.set k (if line + 64 = info.base + info.size then
      .ready (faultedInfo fault info) else .sweeping (faultedInfo fault info) (line + 64)) } w.now s (settleSweep z) := by
  have hrsw : w.rsw = s.rsw := by rw [hw]
  have hfound := (passedWrite_found (s := w) (hrsw ▸ hk) fault).1
  have honly := passedWrite_only k line fault w
  have hgoes := sweepGoesOn_settled (s := s) (y := passedWrite k line fault w) (z := z) rfl
    (by rw [hfound, hrsw]) (by rw [honly, hw]) (by rw [honly, hw]) rfl hz (by rw [hslots, honly]) hmli
  rwa [hfound, hrsw, congrArg State.now honly] at hgoes

theorem sweepWrite_posts {s w z : State} {k : Fin 8} {line : Nat} {info : RegionInfo} {fault : Option FaultCause}
    {kinds : List Nat} (hk : s.rsw.regions.get k = .sweeping info line) (hw : w = { s with mp := w.mp, now := w.now })
    (hz : PostedOnly kinds (sweepGoOn (passedWrite k line fault w)).nu z.nu) : ∃ later, (settleSweep z).nu.queue =
      (if line + 64 = info.base + info.size then
        postToNu (.sweepDone k (faultedInfo fault info).faults) (faultedNu k line fault s.nu)
      else faultedNu k line fault s.nu).queue ++ later := by
  have hrsw : w.rsw = s.rsw := by rw [hw]
  have hnu : w.nu = s.nu := by rw [hw]
  have hfound := (passedWrite_found (s := w) (hrsw ▸ hk) fault).2
  rw [hnu] at hfound
  have hposted : Posted (7 :: kinds) (passedWrite k line fault w).nu (settleSweep z).nu :=
    (((sweepGoOn_posted _).mono (by simp)).trans ((hz.mono (by simp)).trans ((settleSweep_posted z).mono (by simp)))).posted
  obtain ⟨later, hlater⟩ := hposted.queue_prefix
  exact ⟨later, by rw [← hlater, hfound]⟩

/-- Settles O29. -/
theorem pacingEndBringsAnEvaluation : Obligations.PacingEndBringsAnEvaluation := by
  refine ⟨fun s hs => ?_, ?_⟩
  · have hexec : exec .pacingEnd s = .next (pacingEnds s) := exec_eventAct rfl hs
    refine ⟨fun h => by rw [hexec, pacingEnds_other h], fun u hu => ⟨_, hexec, ?_⟩⟩
    have hevaluates := evaluate_evaluates (atTime u s)
    have hnow : (judgeStarvation (evaluate (atTime u s))).now = max s.now u := by simp [atTime]
    rw [pacingEnds_pacing hu]
    refine ⟨hnow, fun h => ?_, fun k line hm ht hw => ?_, ⟨_, by rw [hnow]; exact hevaluates, rfl⟩, ?_⟩
    · rw [hevaluates.of_rests h]; rfl
    · rw [hevaluates.of_stops hm ht hw]; rfl
    · rw [evaluate_only]; rfl
  · intro c fault slot sent k line deadline moment info info' nu₁ nu₂ sweep s hs hslot he hk hc hinfo hnu₁ hnu₂ hsweep
    have hinfo' : info' = faultedInfo fault info := by rw [hinfo, faultedInfo_eq]
    have hnu₁' : nu₁ = faultedNu k line fault s.nu := by rw [hnu₁]; rfl
    subst hinfo' hnu₁' hnu₂ hsweep
    obtain ⟨time, r, rfl, rfl, rfl, rfl, hfault⟩ | ⟨rfl, rfl, rfl⟩ := hc
    · have hfault' : fault = if writeDone r then none else some .dataFault := by simp only [hfault, writeDone_iff]
      have hexec : exec (.memoryResponse time r) s = .next (settleSweep (testDrain
          (sweepGoOn (passedWrite k line fault (freeSlot r.slot (atTime time s)))))) := by
        rw [exec_memoryResponse_released hs, receive_sweep (by exact hslot), sweepReturned_eq (s := atTime time s) he, hfault']
      have hgoes := sweepWrite_ends (s := s) (w := freeSlot r.slot (atTime time s)) (fault := fault)
        (z := testDrain (sweepGoOn (passedWrite k line fault (freeSlot r.slot (atTime time s))))) hk rfl
        (by simp) (by simp) (by simp)
      obtain ⟨later, hlater⟩ := sweepWrite_posts (s := s) (w := freeSlot r.slot (atTime time s)) (fault := fault) hk rfl
        (testDrain_posted (sweepGoOn (passedWrite k line fault (freeSlot r.slot (atTime time s)))))
      refine ⟨_, later, hexec, by simp [atTime], hlater, hgoes.rests, hgoes.paces, hgoes.evaluates, ?_, nofun, by simp, by simp,
        by simp, by simp, by simp, by simp, fun hm => ?_⟩
      · intro _ _ _; simp
      · rw [testDrain_not_draining (by simpa using hm)]; simp
    · have hexec : exec (.slotDeadline slot) s = .next (settleSweep (testDrain (judgeStall
          (sweepGoOn (passedWrite k line (some .timeout) (orphanSlot slot .sweepEngine line sent deadline s)))))) := by
        rw [exec_eventAct (c := .slotDeadline slot) rfl hs, expireSlot_sweep hslot he]
      have hgoes := sweepWrite_ends (s := s) (w := orphanSlot slot .sweepEngine line sent deadline s) (fault := some .timeout)
        (z := testDrain (judgeStall
          (sweepGoOn (passedWrite k line (some .timeout) (orphanSlot slot .sweepEngine line sent deadline s))))) hk rfl
        (by simp) (by simp [judgeStall_slots]) (by simp [orphanSlot])
      obtain ⟨later, hlater⟩ := sweepWrite_posts (s := s) (w := orphanSlot slot .sweepEngine line sent deadline s)
        (fault := some .timeout) hk rfl
        (((judgeStall_posted _).mono (kinds' := [5, 10]) (by simp)).trans ((testDrain_posted _).mono (by simp)))
      refine ⟨_, later, hexec, by simp [orphanSlot], hlater, hgoes.rests, hgoes.paces, hgoes.evaluates, nofun, fun _ => ?_,
        by simp [orphanSlot], by simp [orphanSlot], by simp [orphanSlot], by simp [orphanSlot], by simp [orphanSlot],
        by simp [orphanSlot], fun hm => ?_⟩
      · simp only [settleSweep_frame, testDrain_frame]
        rw [(judgeStall_found _).1]
        simp [orphanSlot, ownerPurpose]
      · rw [testDrain_not_draining (by simpa [orphanSlot] using hm)]; simp [orphanSlot]

end Sys2Proof.Machine
end

section
/-! The responses to READs and SYNCs (R84, R65). -/

namespace Sys2Proof.Machine

theorem sendReadResponse_answered {s : State} {c : Fin 16} {rest : List (Fin 16)} {x : Context} (h : s.rdp.ready = c :: rest)
    (hx : s.rdp.contexts.get c = some x) : sendReadResponse s =
      judgeStarvation (testDrain (judgeHead (answerContext c x { s with rdp := { s.rdp with ready := rest } }))) := by
  simp only [sendReadResponse, h, hx]

/-- Settles O15. -/
theorem readResponseAnswersAContext : Obligations.ReadResponseAnswersAContext := by
  intro s hs
  have hexec : exec .readResponse s = .next (sendReadResponse s) := exec_eventAct rfl hs
  refine ⟨fun h => ?_, fun c rest x h hx => ⟨_, hexec, ?_⟩⟩
  · rw [hexec]
    simp only [sendReadResponse, h]
  · rw [sendReadResponse_answered h hx]
    have hlat : (judgeStarvation (testDrain (judgeHead
        (answerContext c x { s with rdp := { s.rdp with ready := rest } })))).lat =
        judgedLat s.rqp.intake.head? (answerContext c x { s with rdp := { s.rdp with ready := rest } }) := by
      simp only [judgeStarvation_lat, testDrain_frame]
      exact judgeHead_lat _
    have hrqp : (judgeStarvation (testDrain (judgeHead
        (answerContext c x { s with rdp := { s.rdp with ready := rest } })))).rqp =
        { s.rqp with tags := s.rqp.tags.filter (fun p => p != (x.requester, x.tag)) } := by
      simp only [judgeStarvation_rqp, testDrain_frame, judgeHead_frame]
      rfl
    refine ⟨?_, ?_, hrqp, ?_, ?_, ?_, ?_, ?_, fun hm => ?_, fun hm => ?_⟩
    iterate 6 · simp only [judgeStarvation_out, judgeStarvation_rdp, judgeStarvation_ord, judgeStarvation_rsw,
        judgeStarvation_mp, judgeStarvation_mli, testDrain_frame, judgeHead_frame]; rfl
    · rw [hlat, hrqp]
      exact judgedLat_congr _ rfl rfl rfl rfl fun _ => rfl
    · rw [testDrain_not_draining (by simpa using hm)]
      simp
    · rw [hlat]
      exact judgedLat_not_online (s := answerContext c x { s with rdp := { s.rdp with ready := rest } }) hm _

theorem sendSyncResponse_answered {s : State} {r : Requester} {rest : List Requester} {x : SyncRecord}
    (h : s.ord.syncReady = r :: rest) (hx : s.ord.sync.get r = some x) :
    sendSyncResponse s = testDrain (answerSync r x { s with ord := { s.ord with syncReady := rest } }) := by
  simp only [sendSyncResponse, h, hx]

/-- Settles O16. -/
theorem syncResponseReportsTheFailureFlag : Obligations.SyncResponseReportsTheFailureFlag := by
  intro s hs
  have hexec : exec .syncResponse s = .next (sendSyncResponse s) := exec_eventAct rfl hs
  refine ⟨fun h => ?_, fun r rest x h hx => ⟨_, hexec, ?_⟩⟩
  · rw [hexec]
    simp only [sendSyncResponse, h]
  · rw [sendSyncResponse_answered h hx]
    refine ⟨?_, ?_, fun q hq => ?_, ?_, ?_, ?_, ?_, ?_, ?_, ?_, ?_, ?_, ?_, fun hm => ?_⟩
    · simp only [testDrain_frame]; rfl
    · simp only [testDrain_frame]; exact Table.get_set_self _ _ _
    · simp only [testDrain_frame]; exact Table.get_set_ne _ (Ne.symm hq) _
    iterate 10 · simp only [testDrain_frame]; rfl
    · rw [testDrain_not_draining (s := answerSync r x { s with ord := { s.ord with syncReady := rest } }) hm]
      exact ⟨rfl, rfl⟩

end Sys2Proof.Machine
end

section
/-! The end of an entry and what it tells everything that waits for it (R21, R37 to R46, R60). -/

namespace Sys2Proof.Machine

/-! ## Held acknowledgements (R43, R144) -/

/-- A held record after one count with a held status. -/
def countedRecord (status : HeldStatus) (r : WrtRecord) : Option WrtRecord :=
  if r.outstanding ≤ 1 then none
  else some { r with outstanding := r.outstanding - 1, worst := worseHeld r.worst status }

/-- The response of the record `w` when its count brings it to zero. -/
def releasedResponse (s : State) (status : HeldStatus) (w : Fin 16) : Option Response :=
  (s.rqp.wrt.get w).bind (fun r =>
    if r.outstanding ≤ 1 then
      some { requester := r.requester, tag := r.tag, status := heldResponse (worseHeld r.worst status), data := [] }
    else none)

/-- The responses leave the link and release their pairs. -/
def withoutPairs (tags : List (Requester × Tag)) (responses : List Response) : List (Requester × Tag) :=
  tags.filter (fun p => responses.all (fun r => p != (r.requester, r.tag)))

theorem withoutPairs_nil (tags : List (Requester × Tag)) : withoutPairs tags [] = tags :=
  List.filter_eq_self.2 fun _ _ => rfl

theorem withoutPairs_append (tags : List (Requester × Tag)) (a b : List Response) :
    withoutPairs (withoutPairs tags a) b = withoutPairs tags (a ++ b) := by
  simp [withoutPairs, List.filter_filter, Bool.and_comm]

/-- One count: the record, the answer at zero and its pair. -/
theorem countDown_found (status : HeldStatus) (w : Fin 16) (s : State) :
    (countDown status w s).rqp.wrt.get w = (s.rqp.wrt.get w).bind (countedRecord status) ∧
    (∀ v, v ≠ w → (countDown status w s).rqp.wrt.get v = s.rqp.wrt.get v) ∧
    (countDown status w s).out =
      { s.out with responses := s.out.responses ++ (releasedResponse s status w).toList } ∧
    (countDown status w s).rqp.tags = withoutPairs s.rqp.tags (releasedResponse s status w).toList := by
  unfold countDown releasedResponse
  cases hr : s.rqp.wrt.get w with
  | none => exact ⟨hr, fun _ _ => rfl, by simp, (withoutPairs_nil _).symm⟩
  | some r =>
    dsimp only [Option.bind_some, countedRecord]
    split
    · refine ⟨Table.get_set_self _ _ _, fun v hv => Table.get_set_ne _ (Ne.symm hv) _, rfl, ?_⟩
      simp [withoutPairs, respondTaken, releaseTag, respond]
    · exact ⟨Table.get_set_self _ _ _, fun v hv => Table.get_set_ne _ (Ne.symm hv) _, by simp, (withoutPairs_nil _).symm⟩

theorem releasedResponse_congr {s s' : State} (status : HeldStatus) {w : Fin 16} (h : s'.rqp.wrt.get w = s.rqp.wrt.get w) :
    releasedResponse s' status w = releasedResponse s status w := by
  rw [releasedResponse, releasedResponse, h]

/-- The counts over a held list whose records are different. -/
theorem countDownHeld_found (status : HeldStatus) {held : List (Fin 16)} (hheld : held.Nodup) (s : State) :
    (∀ w, (countDownHeld status held s).rqp.wrt.get w =
      if w ∈ held then (s.rqp.wrt.get w).bind (countedRecord status) else s.rqp.wrt.get w) ∧
    (countDownHeld status held s).out =
      { s.out with responses := s.out.responses ++ held.filterMap (releasedResponse s status) } ∧
    (countDownHeld status held s).rqp.tags = withoutPairs s.rqp.tags (held.filterMap (releasedResponse s status)) := by
  induction held generalizing s with
  | nil => exact ⟨fun w => by simp [countDownHeld], by simp [countDownHeld], (withoutPairs_nil _).symm⟩
  | cons w rest ih =>
    obtain ⟨hw, hrest⟩ := List.nodup_cons.1 hheld
    obtain ⟨hself, hother, hout, htags⟩ := countDown_found status w s
    obtain ⟨hwrt', hout', htags'⟩ := ih hrest (countDown status w s)
    have hsame : rest.filterMap (releasedResponse (countDown status w s) status) =
        rest.filterMap (releasedResponse s status) :=
      List.filterMap_congr fun v hv => releasedResponse_congr status (hother v fun h => hw (h ▸ hv))
    have hlist : (w :: rest).filterMap (releasedResponse s status) =
        (releasedResponse s status w).toList ++ rest.filterMap (releasedResponse s status) := by
      cases h : releasedResponse s status w <;> simp [h]
    refine ⟨fun v => (hwrt' v).trans ?_, hout'.trans ?_, htags'.trans ?_⟩
    · by_cases hv : v = w
      · subst hv; simp [hw, hself]
      · simp [hv, hother v hv]
    · rw [hout, hsame, hlist]; simp
    · rw [htags, hsame, hlist, withoutPairs_append]

/-! ## What an end leaves of the Ordering Unit -/

theorem becomesSuppressed_eq (i : Fin 32) (failed : Bool) (e : Option Entry) : becomesSuppressed i failed e =
    e.any (fun x => x.barrier.any (fun b =>
      b.predecessors.has i && (b.predecessors.erase i).isEmpty && (b.failed || failed) && b.suppress)) := by
  unfold becomesSuppressed
  congr 1
  funext x
  cases x.barrier with
  | none => rfl
  | some b => cases hb : b.predecessors.has i <;> simp [barrierWithout, hb, Bool.and_assoc]

theorem endEntry_ord {i : Fin 32} {e : Entry} (kind : EndKind) {s : State} (he : s.lat.entries.get i = some e) :
    (endEntry i kind s).ord = { s.ord with
      flags := if endFailed kind then s.ord.flags.union e.contributors else s.ord.flags,
      sync := s.ord.sync.map (syncWithout i),
      syncReady := s.ord.syncReady ++ s.ord.sync.indices (syncEmptied i),
      discards := s.ord.discards ++ s.lat.entries.indices (becomesSuppressed i (endFailed kind)) } := by
  unfold endEntry
  rw [he]
  dsimp only
  unfold completionEffects
  dsimp only
  cases kind <;> simp [endFailed, forgetEntry, setFailureFlags, freeEntry]

/-! ## What the judgement that follows leaves of the table -/

/-- What closes leave of a table: no entry leaves or joins it, an entry keeps its line, bytes, contributors, held list and barrier,
and what is FREE is neither marked nor queued anew. -/
structure ClosesLeave (l m : Lat) : Prop where
  entry : ∀ j x, l.entries.get j = some x → ∃ y, m.entries.get j = some y ∧ y.line = x.line ∧ y.cells = x.cells ∧
    y.contributors = x.contributors ∧ y.held = x.held ∧ y.barrier = x.barrier
  free : ∀ j, l.entries.get j = none → m.entries.get j = none
  mark : ∀ j, l.entries.get j = none → m.evictMark = some j → l.evictMark = some j
  queue : ∀ j, l.entries.get j = none → j ∈ m.issueQueue → j ∈ l.issueQueue

theorem closeIn_leaves (cause : CloseCause) (i : Fin 32) (l : Lat) : ClosesLeave l (closeIn cause i l) := by
  obtain h | ⟨e, he, -, h⟩ := closeIn_cases cause i l
  · rw [h]
    exact ⟨fun j x hx => ⟨x, hx, rfl, rfl, rfl, rfl, rfl⟩, fun _ h => h, fun _ _ h => h, fun _ _ h => h⟩
  · have hne : ∀ j, l.entries.get j = none → i ≠ j := fun j hj hij => by subst hij; rw [he] at hj; cases hj
    refine ⟨fun j x hx => ?_, fun j hj => (closeIn_isNone cause i j l).2 hj, fun j hj hmark => ?_, fun j hj hqueue => ?_⟩
    · obtain hget | ⟨-, y, n, hy, -, hget⟩ := closeIn_get cause i j l
      · exact ⟨x, hget.trans hx, rfl, rfl, rfl, rfl, rfl⟩
      · cases hx.symm.trans hy
        exact ⟨_, hget, rfl, rfl, rfl, rfl, rfl⟩
    · rw [h] at hmark
      dsimp only at hmark
      split at hmark
      · exact absurd (Option.some.inj hmark) (hne j hj)
      · exact hmark
    · rw [h] at hqueue
      simpa [Ne.symm (hne j hj)] using hqueue

theorem closesLeave_obeyed : ClosesObey ClosesLeave where
  refl l := ⟨fun j x hx => ⟨x, hx, rfl, rfl, rfl, rfl, rfl⟩, fun _ h => h, fun _ _ h => h, fun _ _ h => h⟩
  trans l m n h h' := by
    refine ⟨fun j x hx => ?_, fun j hj => h'.free j (h.free j hj), fun j hj hm => h.mark j hj (h'.mark j (h.free j hj) hm),
      fun j hj hm => h.queue j hj (h'.queue j (h.free j hj) hm)⟩
    obtain ⟨y, hy, hline, hcells, hwho, hheld, hbarrier⟩ := h.entry j x hx
    obtain ⟨z, hz, hline', hcells', hwho', hheld', hbarrier'⟩ := h'.entry j y hy
    exact ⟨z, hz, hline'.trans hline, hcells'.trans hcells, hwho'.trans hwho, hheld'.trans hheld, hbarrier'.trans hbarrier⟩
  close := closeIn_leaves

theorem closeEach_evictMark {cause : CloseCause} (hc : cause ≠ .evict) (list : List (Fin 32)) (l : Lat) :
    (closeEach cause list l).evictMark = l.evictMark := by
  induction list generalizing l with
  | nil => rfl
  | cons i rest ih =>
    refine (ih (closeIn cause i l)).trans ?_
    obtain h | ⟨e, -, -, h⟩ := closeIn_cases cause i l
    · rw [h]
    · rw [h]; exact if_neg hc

/-- A judgement evicts nothing while an eviction is outstanding (R16). -/
theorem judgeHead_evictMark {s : State} {j : Fin 32} (h : s.lat.evictMark = some j) : (judgeHead s).lat.evictMark = some j := by
  obtain h' | ⟨q, rest, -, -, -, h'⟩ := judgeHead_cases s
  · rw [h']; exact h
  · have hmark := (closeEach_evictMark (cause := .heldLimit) (by nofun) (heldLimitEntries s q) s.lat).trans h
    rw [h', resourceCloses, evictFor_lat, if_neg (by simp [hmark])]
    exact hmark

/-! ## The end of an entry as it is told -/

/-- Two states with the same requests, entries, waits, long command and outputs. -/
structure SameTraffic (u v : State) : Prop where
  rqp : v.rqp = u.rqp
  lat : v.lat = u.lat
  ord : v.ord = u.ord
  mc : v.mc = u.mc
  out : v.out = u.out

theorem latWithout_get_other {i j : Fin 32} {failed : Bool} {l : Lat} {x : Entry} (hj : j ≠ i)
    (hx : l.entries.get j = some x) : (latWithout i failed l).entries.get j =
      some { x with barrier := x.barrier.map (fun b =>
        if b.predecessors.has i then
          { b with predecessors := b.predecessors.erase i, failed := b.failed || failed }
        else b) } := by
  simp [latWithout, hj, hx]

theorem latWithout_get_self (i : Fin 32) (failed : Bool) (l : Lat) : (latWithout i failed l).entries.get i = none := by
  simp [latWithout]

/-- The end of the entry at `i`, with the judgement of the head and the drain test that follow it, tells everything that waits. -/
theorem endIsTold {s u v t : State} {i : Fin 32} {e : Entry} {kind : EndKind} (he : s.lat.entries.get i = some e)
    (hu : SameTraffic s u) (hv : SameTraffic (endEntry i kind u) v)
    (hregions : ∀ k, rangeOf (v.rsw.regions.get k) = rangeOf (s.rsw.regions.get k))
    (ht : SameTraffic (testDrain (judgeHead v)) t) : EndIsTold s t i e (endFailed kind) (endHeldStatus kind) := by
  have heu : u.lat.entries.get i = some e := by rw [hu.lat]; exact he
  have hlat : v.lat = latWithout i (endFailed kind) s.lat := by rw [hv.lat, endEntry_latWithout kind heu, hu.lat]
  have hord := hv.ord.trans (endEntry_ord kind heu)
  have hmc := hv.mc.trans (endEntry_mc kind heu)
  have hmode : v.mc.mode = s.mc.mode := by rw [hmc, hu.mc]
  obtain ⟨hrqp, hout⟩ := endEntry_rqp kind heu
  replace hrqp := hv.rqp.trans hrqp
  replace hout := hv.out.trans hout
  have htord : t.ord = v.ord := by rw [ht.ord]; simp
  have htrqp : t.rqp = v.rqp := by rw [ht.rqp]; simp
  have htout : t.out = v.out := by rw [ht.out]; simp
  have htlat : t.lat = (judgeHead v).lat := by rw [ht.lat]; simp
  have hleft : ClosesLeave (latWithout i (endFailed kind) s.lat) t.lat := by
    rw [htlat, ← hlat]; exact closesLeave_obeyed.judgeHead v
  have hcounted : e.held.Nodup → _ := fun h => countDownHeld_found (endHeldStatus kind) h u
  have hreleased : releasedResponses s e (endHeldStatus kind) = e.held.filterMap (releasedResponse u (endHeldStatus kind)) :=
    List.filterMap_congr fun w _ => (releasedResponse_congr _ (by rw [hu.rqp])).symm
  exact {
    freed := hleft.free i (latWithout_get_self _ _ _)
    others := fun j x hj hx => by
      obtain ⟨y, hy, hline, hcells, hwho, hheld, hbarrier⟩ := hleft.entry j _ (latWithout_get_other hj hx)
      exact ⟨y, hy, hline, hcells, hwho, hheld, hbarrier⟩
    markCleared := fun hmark hmark' => by
      have hcleared := hleft.mark i (latWithout_get_self _ _ _) hmark'
      rw [latWithout, if_pos hmark] at hcleared
      cases hcleared
    markKept := fun j hj hmark => by
      rw [htlat]
      refine judgeHead_evictMark ?_
      rw [hlat, latWithout, if_neg (by rw [hmark]; exact fun h => hj (Option.some.inj h))]
      exact hmark
    flags := fun q => by
      rw [htord, hord, hu.ord]
      cases endFailed kind <;> simp
    sync := fun q => by rw [htord, hord, hu.ord]; exact Table.get_map _ _ _
    syncReady := by rw [htord, hord, hu.ord]; rfl
    discards := by
      rw [htord, hord, hu.ord, hu.lat, funext (becomesSuppressed_eq i (endFailed kind))]; rfl
    rules := by rw [htord, hord, hu.ord]
    flush := fun waitSet losses hrun hm => by
      rw [ht.mc, testDrain_not_draining (by simpa [hmode] using hm)]
      simp only [judgeHead_frame, hmc, hu.mc, hrun, runningWithout]
    wrt := fun h w => by
      rw [htrqp, hrqp, (hcounted h).1 w, hu.rqp]; rfl
    answers := fun h => by rw [htout, hout, (hcounted h).2.1, hreleased, hu.out]
    tags := fun h => by rw [htrqp, hrqp, (hcounted h).2.2, hreleased, hu.rqp]; rfl
    intake := by
      obtain ⟨hintake, hlink⟩ := countDownHeld_queues (endHeldStatus kind) e.held u
      rw [htrqp, hrqp, hintake, hlink, hu.rqp]
      exact ⟨rfl, rfl⟩
    judged := by
      have hintake : v.rqp.intake = s.rqp.intake := by
        rw [hrqp, (countDownHeld_queues _ _ u).1, hu.rqp]
      rw [htlat, judgeHead_lat, hintake]
      exact judgedLat_congr _ hlat (by rw [hord, hu.ord]) hmode (by rw [htrqp]) hregions }

/-! ## The end of an entry by its slot (R34, R35, R37 to R39) -/

theorem testDrain_online (s : State) : (testDrain s).mc.mode = .online ↔ s.mc.mode = .online := by
  obtain h | ⟨h, h'⟩ := testDrain_mode s
  · rw [h]
  · rw [h, h']; decide

theorem claimEnded_rangeOf (line : Nat) (s : State) (k : Fin 8) :
    rangeOf ((claimEnded line s).rsw.regions.get k) = rangeOf (s.rsw.regions.get k) :=
  ((claimEnded_swept (seen := fun _ _ => True) line (fun _ _ _ _ => trivial)).region k).rangeOf_eq

theorem aheadAfterWrite_found {i : Fin 32} {e : Entry} (written : Bool) {s : State} (he : s.lat.entries.get i = some e) :
    (aheadAfterWrite i written s).rsw = { s.rsw with ahead := aheadAfterEnd e written s.rsw.ahead } := by
  have hflight : ∀ r, isInFlightOf e.line r = decide (r.line = e.line ∧ r.state = .inFlight) := fun r =>
    Bool.eq_iff_iff.2 (by simp [isInFlightOf])
  rw [aheadAfterWrite, he]
  dsimp only
  unfold aheadAfterEnd
  split
  · cases written
    · simp [aheadRemoved, hflight]
    · simp [aheadWritten, hflight]
  · rfl

/-- What follows an entry's end by a response: the claim on the line has ended, and the head and the drain are judged. -/
theorem afterEntryEnd_released {s u t : State} {i : Fin 32} {e : Entry} {kind : EndKind} {line : Nat}
    (he : s.lat.entries.get i = some e) (hu : SameTraffic s u) (hregions : u.rsw.regions = s.rsw.regions)
    (ht : t = afterEntryEnd (claimEnded line (endEntry i kind u))) :
    EndIsTold s t i e (endFailed kind) (endHeldStatus kind) ∧ ClaimEndIsFound u.rsw s.mc.mode line t ∧
    t.mp = u.mp ∧ t.rdp = u.rdp ∧ t.mli = u.mli ∧ PostedOnly [7, 10] (endEntry i kind u).nu t.nu := by
  subst ht
  have hmode : (endEntry i kind u).mc.mode = s.mc.mode := by rw [endEntry_mode, hu.mc]
  refine ⟨endIsTold he hu (v := claimEnded line (endEntry i kind u)) ?_ (fun k => ?_) ?_, ?_, by simp, by simp, by simp,
    ((claimEnded_posted line _).mono (by simp)).trans (afterEntryEnd_posted _)⟩
  · constructor <;> simp
  · rw [claimEnded_rangeOf, (endEntry_frame i kind u).2.2.1, hregions]
  · constructor <;> simp [afterEntryEnd]
  · have hfound := claimEndIsFound (u := endEntry i kind u) (v := testDrain (judgeHead (claimEnded line (endEntry i kind u))))
      (line := line) (by simp) (by simp) (by rw [testDrain_online]; simp)
    rwa [(endEntry_frame i kind u).2.2.1, hmode] at hfound

/-- What follows an entry's end by a deadline: the stall, the head and the drain are judged. -/
theorem afterEntryEnd_orphaned {s u t : State} {i : Fin 32} {e : Entry} {kind : EndKind}
    (he : s.lat.entries.get i = some e) (hu : SameTraffic s u) (hregions : u.rsw.regions = s.rsw.regions)
    (ht : t = afterEntryEnd (judgeStall (endEntry i kind u))) :
    EndIsTold s t i e (endFailed kind) (endHeldStatus kind) ∧ ((∀ w, u.rsw.engine ≠ .pacing w) → t.rsw = u.rsw) ∧
    t.mp = { u.mp with stallMark := t.mp.stallMark } ∧ t.rdp = u.rdp ∧ t.mli = u.mli ∧
    PostedOnly [5, 7, 10] (endEntry i kind u).nu t.nu := by
  subst ht
  refine ⟨endIsTold he hu (v := judgeStall (endEntry i kind u)) ?_ (fun k => ?_) ?_, fun hp => ?_, ?_, by simp, by simp,
    ((judgeStall_posted _).mono (by simp)).trans ((afterEntryEnd_posted _).mono (by simp))⟩
  · constructor <;> simp
  · simp [hregions]
  · constructor <;> simp [afterEntryEnd]
  · rw [afterEntryEnd, (settleSweep_rsw_of_not_pacing (by simpa using hp)).1]
    simp
  · have hmp : (afterEntryEnd (judgeStall (endEntry i kind u))).mp = (judgeStall (endEntry i kind u)).mp := by simp
    rw [hmp, (judgeStall_found _).1]
    simp

theorem countFill_counters (e : Entry) (s : State) :
    (e.fill = some .none → (countFill e .completed s).nu.counters.wholeWrites = countUp s.nu.counters.wholeWrites) ∧
    (e.fill = some .fetch → (countFill e .completed s).nu.counters.fetchWrites = countUp s.nu.counters.fetchWrites) ∧
    (e.fill = some .pattern → (countFill e .completed s).nu.counters.patternWrites = countUp s.nu.counters.patternWrites) := by
  refine ⟨fun h => ?_, fun h => ?_, fun h => ?_⟩
  all_goals
    simp only [countFill, h]
    rfl

/-- Settles O24. -/
theorem writeCompletesItsEntry : Obligations.WriteCompletesItsEntry := by
  intro time r i e line deadline s hs hslot he hstatus
  have hwritten : writeDone r = true := (writeDone_iff r).2 hstatus
  obtain ⟨u, hu⟩ : ∃ u, u = aheadAfterWrite i true (freeSlot r.slot (atTime time s)) := ⟨_, rfl⟩
  have hrsw : u.rsw = { s.rsw with ahead := aheadAfterEnd e true s.rsw.ahead } := by rw [hu]; exact aheadAfterWrite_found _ he
  have hexec : exec (.memoryResponse time r) s = .next (afterEntryEnd (claimEnded line (endEntry i .completed u))) := by
    rw [exec_memoryResponse_released hs, receive_write (by exact hslot), writeReturned, hwritten, hu]
    rfl
  obtain ⟨htold, hclaim, hmp, hrdp, hmli, hposted⟩ := afterEntryEnd_released (s := s) (u := u) (kind := .completed) (line := line)
    he (by subst hu; constructor <;> simp [atTime, freeSlot]) (by rw [hrsw]) rfl
  obtain ⟨w, hw, hnu⟩ := endEntry_nu .completed (s := u) (i := i) (e := e) (by subst hu; simpa [freeSlot, atTime] using he)
  have hwnu : w.nu = s.nu := by rw [hw, hu]; simp [postEnd, freeSlot, atTime]
  have hcounters := hposted.counters
  rw [hnu] at hcounters
  obtain ⟨hnone, hfetch, hpattern⟩ := countFill_counters e w
  rw [hwnu] at hnone hfetch hpattern
  refine ⟨_, hexec, htold.freed, hmp.trans ?_, ?_, htold.rules, hrdp.trans ?_, hmli.trans ?_, htold.sync,
    fun h => ?_, fun h => ?_, fun h => ?_, htold, hrsw ▸ hclaim⟩
  · rw [hu]; simp [freeSlot, atTime]
  · exact Table.ext_get fun q => (htold.flags q).trans (Bool.or_false _)
  · rw [hu]; simp [freeSlot, atTime]
  · rw [hu]; simp [freeSlot, atTime]
  · rw [hcounters]; exact hnone h
  · rw [hcounters]; exact hfetch h
  · rw [hcounters]; exact hpattern h

theorem readData_none {r : MemoryResponse} (h : memoryStatusOf r.status = .dataFault ∨ r.data = none) : readData r = none := by
  unfold readData
  obtain h | h := h
  · rw [h]
  · rw [h]; cases memoryStatusOf r.status <;> rfl

/-- Settles O25. -/
theorem failedEntrySetsFlagsAndReports : Obligations.FailedEntrySetsFlagsAndReports := by
  intro c body status sweep i e s hs he hcase
  obtain ⟨time, r, line, deadline, rfl, hslot, hfault, rfl, rfl, rfl⟩ | ⟨time, r, line, deadline, rfl, hslot, hfault, rfl, rfl, rfl⟩ |
    ⟨slot, line, sent, deadline, rfl, hslot, rfl, rfl, rfl⟩ | ⟨slot, line, sent, deadline, rfl, hslot, rfl, rfl, rfl⟩ := hcase
  · obtain ⟨htold, hclaim, hmp, hrdp, hmli, hposted⟩ := afterEntryEnd_released (s := s) (u := freeSlot r.slot (atTime time s))
      (kind := .lost .fetchFault) (line := line) he ⟨rfl, rfl, rfl, rfl, rfl⟩ rfl rfl
    have hexec : exec (.memoryResponse time r) s = .next (afterEntryEnd (claimEnded line
        (endEntry i (.lost .fetchFault) (freeSlot r.slot (atTime time s))))) := by
      rw [exec_memoryResponse_released hs, receive_fetch (by exact hslot), fetchReturned_failed (readData_none hfault)]
    rw [endEntry_failed_nu (by exact he) rfl] at hposted
    refine ⟨_, hexec, htold.freed, by simpa [endFailed] using htold.flags, htold.rules, hrdp, hmli,
      hposted.posted.queue_behind, htold, fun time' r' owner line' deadline' hc hslot' => ?_, nofun⟩
    cases hc
    cases hslot.symm.trans hslot'
    exact ⟨hmp, hclaim⟩
  · obtain ⟨u, hu⟩ : ∃ u, u = aheadAfterWrite i false (freeSlot r.slot (atTime time s)) := ⟨_, rfl⟩
    have hrsw : u.rsw = { s.rsw with ahead := aheadAfterEnd e false s.rsw.ahead } := by rw [hu]; exact aheadAfterWrite_found _ he
    have hexec : exec (.memoryResponse time r) s =
        .next (afterEntryEnd (claimEnded line (endEntry i (.lost .writeFault) u))) := by
      rw [exec_memoryResponse_released hs, receive_write (by exact hslot), writeReturned, writeDone, hfault, hu]
      rfl
    obtain ⟨htold, hclaim, hmp, hrdp, hmli, hposted⟩ := afterEntryEnd_released (s := s) (u := u)
      (kind := .lost .writeFault) (line := line) he (by subst hu; constructor <;> simp [atTime, freeSlot]) (by rw [hrsw]) rfl
    rw [endEntry_failed_nu (by subst hu; simpa [atTime, freeSlot] using he) rfl] at hposted
    have hnu : u.nu = s.nu := by rw [hu]; simp [freeSlot, atTime]
    refine ⟨_, hexec, htold.freed, by simpa [endFailed] using htold.flags, htold.rules, hrdp.trans ?_, hmli.trans ?_,
      fun h => ?_, htold, fun time' r' owner line' deadline' hc hslot' => ?_, nofun⟩
    · rw [hu]; simp [freeSlot, atTime]
    · rw [hu]; simp [freeSlot, atTime]
    · rw [← hnu] at h ⊢
      exact hposted.posted.queue_behind h
    · cases hc
      cases hslot.symm.trans hslot'
      exact ⟨hmp.trans (by rw [hu]; simp [freeSlot, atTime]), hrsw ▸ hclaim⟩
  · obtain ⟨htold, hsweep, hmp, hrdp, hmli, hposted⟩ := afterEntryEnd_orphaned (s := s)
      (u := orphanSlot slot (.fetchOf i) line sent deadline s) (kind := .lost .fetchTimeout) he ⟨rfl, rfl, rfl, rfl, rfl⟩ rfl rfl
    have hexec : exec (.slotDeadline slot) s = .next (afterEntryEnd (judgeStall
        (endEntry i (.lost .fetchTimeout) (orphanSlot slot (.fetchOf i) line sent deadline s)))) := by
      rw [exec_eventAct (c := .slotDeadline slot) rfl hs, expireSlot_busy hslot]
      rfl
    rw [endEntry_failed_nu (by exact he) rfl] at hposted
    refine ⟨_, hexec, htold.freed, by simpa [endFailed] using htold.flags, htold.rules, hrdp, hmli,
      hposted.posted.queue_behind, htold, nofun, fun slot' owner line' sent' deadline' hc hslot' => ?_⟩
    cases hc
    cases hslot.symm.trans hslot'
    exact ⟨hmp, hsweep⟩
  · obtain ⟨u, hu⟩ : ∃ u, u = aheadAfterWrite i false (orphanSlot slot (.writeOf i) line sent deadline s) := ⟨_, rfl⟩
    have hrsw : u.rsw = { s.rsw with ahead := aheadAfterEnd e false s.rsw.ahead } := by rw [hu]; exact aheadAfterWrite_found _ he
    have hexec : exec (.slotDeadline slot) s = .next (afterEntryEnd (judgeStall (endEntry i .unconfirmed u))) := by
      rw [exec_eventAct (c := .slotDeadline slot) rfl hs, expireSlot_busy hslot, hu]
      rfl
    obtain ⟨htold, hsweep, hmp, hrdp, hmli, hposted⟩ := afterEntryEnd_orphaned (s := s) (u := u) (kind := .unconfirmed) he
      (by subst hu; constructor <;> simp [orphanSlot]) (by rw [hrsw]) rfl
    rw [endEntry_failed_nu (by subst hu; simpa [orphanSlot] using he) rfl] at hposted
    have hnu : u.nu = s.nu := by rw [hu]; simp [orphanSlot]
    refine ⟨_, hexec, htold.freed, by simpa [endFailed] using htold.flags, htold.rules, hrdp.trans ?_, hmli.trans ?_,
      fun h => ?_, htold, nofun, fun slot' owner line' sent' deadline' hc hslot' => ?_⟩
    · rw [hu]; simp [orphanSlot]
    · rw [hu]; simp [orphanSlot]
    · rw [← hnu] at h ⊢
      exact hposted.posted.queue_behind h
    · cases hc
      cases hslot.symm.trans hslot'
      refine ⟨hmp.trans (by rw [hu]; simp [orphanSlot, ownerPurpose]), fun hp => ?_⟩
      rw [hsweep (by rw [hrsw]; exact hp), hrsw]

/-! ## The discard of a suppressed barrier entry (R60) -/

/-- Settles O30. -/
theorem suppressedEntryIsDiscarded : Obligations.SuppressedEntryIsDiscarded := by
  intro s hs
  have hexec : exec .suppressionDiscard s = .next (discardNext s) := exec_eventAct rfl hs
  refine ⟨fun h => by rw [hexec, discardNext, h], fun i rest e b h he hstate hb hempty hfailed hsuppress => ?_⟩
  obtain ⟨u, hu⟩ : ∃ u : State, u = { s with
    ord := { s.ord with discards := rest },
    lat := { s.lat with issueQueue := s.lat.issueQueue.filter (fun j => j != i) } } := ⟨_, rfl⟩
  have hbarrier : suppressedBarrier s.lat i = some b := by
    simp [suppressedBarrier, he, hstate, hb, isSuppressed, hempty, hfailed, hsuppress]
  have hdiscard : discardNext s =
      judgeStarvation (testDrain (judgeHead (endEntry i (.lost (.suppressed b.rule)) u))) := by
    simp only [discardNext, h, hbarrier, hu]
    rfl
  have heu : u.lat.entries.get i = some e := by rw [hu]; exact he
  have htold := endIsTold (s := u) (u := u) (v := endEntry i (.lost (.suppressed b.rule)) u)
    (t := discardNext s) heu ⟨rfl, rfl, rfl, rfl, rfl⟩ ⟨rfl, rfl, rfl, rfl, rfl⟩ (fun k => by simp)
    (by rw [hdiscard]; constructor <;> simp)
  have hposted : PostedOnly [10] (postToNu (.writeLost e.line e.contributors (.suppressed b.rule)) s.nu) (discardNext s).nu := by
    have hnu := endEntry_failed_nu (kind := .lost (.suppressed b.rule)) heu rfl
    have hdrain := testDrain_posted (judgeHead (endEntry i (.lost (.suppressed b.rule)) u))
    simp only [judgeHead_frame, hnu] at hdrain
    rw [hdiscard]
    rw [hu] at hdrain ⊢
    exact hdrain
  refine ⟨_, hexec, htold.freed, ?_, ?_, ?_, ?_, ?_, ?_, ?_, hposted.posted.queue_behind, hu ▸ htold⟩
  · have hlat : (discardNext s).lat = (judgeHead (endEntry i (.lost (.suppressed b.rule)) u)).lat := by rw [hdiscard]; simp
    have hended := endEntry_latWithout (.lost (.suppressed b.rule)) heu
    rw [hlat]
    intro hmem
    have hqueued := (closesLeave_obeyed.judgeHead (endEntry i (.lost (.suppressed b.rule)) u)).queue i
      (by rw [hended]; exact latWithout_get_self _ _ _) hmem
    rw [hended, hu] at hqueued
    simp [latWithout] at hqueued
  · rw [hdiscard, hu]; simp
  · rw [hdiscard, hu]; simp
  · rw [hdiscard, hu]; simp
  · rw [hdiscard, hu]; simp
  · intro q; rw [htold.flags q, hu]; simp [endFailed]
  · intro q; rw [htold.sync q, hu]

end Sys2Proof.Machine
end

section
/-! The end of a read piece: memory's line or a fault, with the pending bytes as the table stands (R79, R81, R82). -/

namespace Sys2Proof.Machine

/-! ## A piece that becomes DONE -/

theorem contextWithDone_found {x : Context} {n : Nat} {y : ReadPiece} (hy : x.pieces[n]? = some y) (status : ReadStatus)
    (bytes : List Byte) : contextWithDone x n status bytes = { x with
      pieces := x.pieces.set n { y with state := .done status },
      buffer := writeBuffer x.buffer y.span.pos bytes,
      worst := worseRead x.worst status } := by
  simp only [contextWithDone, hy]

theorem finishPiece_rdp {c : Fin 16} {x : Context} {s : State} (hx : s.rdp.contexts.get c = some x) (n : Nat)
    (status : ReadStatus) (bytes : List Byte) : (finishPiece c n status bytes s).rdp =
      { contexts := s.rdp.contexts.set c (some (contextWithDone x n status bytes)),
        ready := if contextDone (contextWithDone x n status bytes) then s.rdp.ready ++ [c] else s.rdp.ready } := by
  simp only [finishPiece, hx]

theorem worseRead_ok (status : ReadStatus) : worseRead status .ok = status := by cases status <;> rfl

theorem returnPiece_found {c : Fin 16} {x : Context} {n : Nat} {y : ReadPiece} {s : State}
    (hx : s.rdp.contexts.get c = some x) (hy : x.pieces[n]? = some y) (memory : Table Byte 64) :
    returnPiece c n memory s = finishPiece c n .ok (overlaid s y.span memory.get) s := by
  simp only [returnPiece, hx, hy]

theorem failPiece_found {c : Fin 16} {x : Context} {n : Nat} {y : ReadPiece} {s : State}
    (hx : s.rdp.contexts.get c = some x) (hy : x.pieces[n]? = some y) (status : ReadStatus) (cause : FaultCause) :
    failPiece c n status cause s = finishPiece c n (if covered s y.span then .ok else status)
      (overlaid s y.span fun _ => 0#8)
      (if covered s y.span then s else post (.readFault y.span.line x.requester x.tag cause) s) := by
  simp only [failPiece, hx, hy]
  split <;> rfl

/-- A bridge with an open context is not drained (R153). -/
theorem testDrain_context {s : State} {c : Fin 16} {x : Context} (hx : s.rdp.contexts.get c = some x) : testDrain s = s := by
  refine testDrain_not_drained fun h => ?_
  rw [h.2.1 c] at hx
  cases hx

theorem finishPiece_rdp_congr {u w : State} (h : w.rdp = u.rdp) (c : Fin 16) (n : Nat) (status : ReadStatus)
    (bytes : List Byte) : (finishPiece c n status bytes w).rdp = (finishPiece c n status bytes u).rdp := by
  unfold finishPiece
  rw [h]
  cases u.rdp.contexts.get c
  · exact h
  · rfl

/-- A piece that has ended leaves its context open, so that the drain test that follows ends no drain. -/
theorem settled_finishPiece {s v : State} {c : Fin 16} {x : Context} {n : Nat} {y : ReadPiece} {status : ReadStatus}
    {bytes : List Byte} (hx : s.rdp.contexts.get c = some x) (hy : x.pieces[n]? = some y)
    (hv : v.rdp = (finishPiece c n status bytes s).rdp) : testDrain v = v ∧
    ∃ z, v.rdp.contexts = s.rdp.contexts.set c (some z) ∧ z.pieces = x.pieces.set n { y with state := .done status } ∧
      z.worst = worseRead x.worst status ∧ z.buffer = writeBuffer x.buffer y.span.pos bytes ∧
      v.rdp.ready = (if z.pieces.all pieceDone then s.rdp.ready ++ [c] else s.rdp.ready) := by
  rw [finishPiece_rdp hx] at hv
  have hopen : v.rdp.contexts.get c = some (contextWithDone x n status bytes) := by rw [hv]; exact Table.get_set_self _ _ _
  rw [contextWithDone_found hy] at hv
  exact ⟨testDrain_context hopen, _, congrArg Rdp.contexts hv, rfl, rfl, rfl, congrArg Rdp.ready hv⟩

/-- The notices of a piece's end by a response: what urgency or the ended claim brings to the sweep. -/
theorem claimEnded_settled_nu {line : Nat} {u : State} (hb : ∀ k, u.rsw.engine ≠ .blocked k line)
    (hp : ∀ w, u.rsw.engine ≠ .pacing w) : (settleSweep (claimEnded line u)).nu = u.nu := by
  rw [claimEnded_other hb, (settleSweep_rsw_of_not_pacing hp).2]

theorem countCorrected_counted {r : MemoryResponse} (s : State) (h : r.status = 1#2) :
    (countCorrected (decide (r.status = 1#2)) s).nu.counters.correctedReads = countUp s.nu.counters.correctedReads := by
  rw [h]; rfl

theorem failPiece_found_rdp {c : Fin 16} {x : Context} {n : Nat} {y : ReadPiece} {s : State}
    (hx : s.rdp.contexts.get c = some x) (hy : x.pieces[n]? = some y) (status : ReadStatus) (cause : FaultCause) :
    (failPiece c n status cause s).rdp = (finishPiece c n (if covered s y.span then .ok else status)
      (overlaid s y.span fun _ => 0#8) s).rdp := by
  rw [failPiece_found hx hy]
  exact finishPiece_rdp_congr (by split <;> rfl) _ _ _ _

theorem failPiece_found_nu {c : Fin 16} {x : Context} {n : Nat} {y : ReadPiece} {s : State}
    (hx : s.rdp.contexts.get c = some x) (hy : x.pieces[n]? = some y) (status : ReadStatus) (cause : FaultCause) :
    (failPiece c n status cause s).nu =
      if covered s y.span then s.nu else postToNu (.readFault y.span.line x.requester x.tag cause) s.nu := by
  rw [failPiece_found hx hy]
  simp only [finishPiece_frame]
  split <;> rfl

theorem worseRead_if (covers : Bool) (worst status : ReadStatus) :
    worseRead worst (if covers then .ok else status) = if covers then worst else worseRead worst status := by
  cases covers
  · rfl
  · exact worseRead_ok worst

/-- Settles O26. -/
theorem readReturnIsOverlaid : Obligations.ReadReturnIsOverlaid := by
  refine ⟨fun time r bytes c n x y line deadline s hs hslot hx hy hdata hstatus => ?_,
    fun a status cause slot c n x y line deadline sent s hs hslot hx hy hcase => ?_⟩
  · obtain ⟨w, hw⟩ : ∃ w, w = countCorrected (decide (r.status = 1#2)) (freeSlot r.slot (atTime time s)) := ⟨_, rfl⟩
    obtain ⟨counters, hcount⟩ := countCorrected_nu (decide (r.status = 1#2)) (freeSlot r.slot (atTime time s))
    rw [← hw] at hcount
    have hxw : w.rdp.contexts.get c = some x := by rw [hcount]; exact hx
    have hpiece : pieceReturned c n r (freeSlot r.slot (atTime time s)) =
        finishPiece c n .ok (overlaid s y.span bytes.get) w := by
      rw [pieceReturned, readData_done hdata hstatus]
      dsimp only
      rw [← hw]
      exact (returnPiece_found hxw hy bytes).trans (by rw [hcount]; rfl)
    obtain ⟨hopen, z, hcontexts, hpieces, hworst, hbuffer, hready⟩ := settled_finishPiece
      (v := claimEnded line (finishPiece c n .ok (overlaid s y.span bytes.get) w)) hx hy
      ((claimEnded_frame _ _).2.2.2.1.trans (finishPiece_rdp_congr (show w.rdp = s.rdp by rw [hcount]; rfl) _ _ _ _))
    have hexec : exec (.memoryResponse time r) s =
        .next (settleSweep (claimEnded line (finishPiece c n .ok (overlaid s y.span bytes.get) w))) := by
      rw [exec_memoryResponse_released hs, receive_read (by exact hslot), readReturned_eq, hpiece, hopen]
    have hclaim := claimEndIsFound (u := finishPiece c n .ok (overlaid s y.span bytes.get) w)
      (v := claimEnded line (finishPiece c n .ok (overlaid s y.span bytes.get) w)) (line := line) rfl (by simp) (by simp)
    refine ⟨_, z, hexec, by simpa using hcontexts, hpieces, hworst.trans (worseRead_ok _), hbuffer, by simpa using hready,
      ?_, ?_, ?_, ?_, ?_, ?_, ?_, fun h => ?_⟩
    iterate 6 · simp only [settleSweep_frame, claimEnded_frame, finishPiece_frame]; rw [hcount]; rfl
    · simpa [hcount, freeSlot, atTime] using hclaim
    · have hposted := ((claimEnded_posted line (finishPiece c n .ok (overlaid s y.span bytes.get) w)).trans
        (settleSweep_posted _)).counters
      rw [hposted]
      simpa [hw] using countCorrected_counted (freeSlot r.slot (atTime time s)) h
  · obtain ⟨time, r, rfl, rfl, rfl, hfault, rfl, rfl⟩ | ⟨rfl, rfl, rfl⟩ := hcase
    · obtain ⟨f, hf⟩ : ∃ f, f = failPiece c n .dataError .dataFault (freeSlot r.slot (atTime time s)) := ⟨_, rfl⟩
      have hrdp := hf ▸ failPiece_found_rdp (s := freeSlot r.slot (atTime time s)) hx hy .dataError .dataFault
      have hnu := hf ▸ failPiece_found_nu (s := freeSlot r.slot (atTime time s)) hx hy .dataError .dataFault
      obtain ⟨hopen, z, hcontexts, hpieces, hworst, hbuffer, hready⟩ := settled_finishPiece
        (s := freeSlot r.slot (atTime time s)) (v := claimEnded line f) hx hy (by simpa using hrdp)
      have hexec : exec (.memoryResponse time r) s = .next (settleSweep (claimEnded line f)) := by
        rw [exec_memoryResponse_released hs, receive_read (by exact hslot), readReturned_eq, pieceReturned,
          readData_none hfault]
        exact congrArg (fun v => Host.Outcome.next (settleSweep v)) (hf ▸ hopen)
      have hposted := (claimEnded_posted line f).trans (settleSweep_posted _)
      have hclaim := claimEndIsFound (u := f) (v := claimEnded line f) (line := line) rfl (by simp) (by simp)
      refine ⟨_, z, hexec, by simpa using hcontexts, hpieces, hworst.trans (worseRead_if _ _ _), hbuffer,
        by simpa using hready, ?_, ?_, ?_, ?_, ?_, ?_, fun hc => ?_, fun hc hb hp _ => ?_, fun _ _ _ => ⟨?_, ?_⟩, nofun⟩
      iterate 6 · simp only [settleSweep_frame, claimEnded_frame]; rw [hf]; simp [freeSlot, atTime]
      · rw [hnu, if_neg (by rw [Bool.not_eq_true]; exact hc)] at hposted
        exact hposted.posted.queue_behind
      · rw [claimEnded_settled_nu (by rw [hf]; simpa using hb) (by rw [hf]; simpa using hp), hnu, if_pos (by exact hc)]
        rfl
      · simp only [settleSweep_frame, claimEnded_frame]; rw [hf]; simp [freeSlot, atTime]
      · rw [hf] at hclaim ⊢
        simpa [freeSlot, atTime] using hclaim
    · obtain ⟨f, hf⟩ : ∃ f, f = failPiece c n .timeout .timeout (orphanSlot slot (.readOf c n) line sent deadline s) := ⟨_, rfl⟩
      have hrdp := hf ▸ failPiece_found_rdp (s := orphanSlot slot (.readOf c n) line sent deadline s) hx hy .timeout .timeout
      have hnu := hf ▸ failPiece_found_nu (s := orphanSlot slot (.readOf c n) line sent deadline s) hx hy .timeout .timeout
      obtain ⟨hopen, z, hcontexts, hpieces, hworst, hbuffer, hready⟩ := settled_finishPiece
        (s := orphanSlot slot (.readOf c n) line sent deadline s) (v := judgeStall f) hx hy (by simpa using hrdp)
      have hexec : exec (.slotDeadline slot) s = .next (settleSweep (judgeStall f)) := by
        rw [exec_eventAct (c := .slotDeadline slot) rfl hs, expireSlot_busy hslot]
        exact congrArg (fun v => Host.Outcome.next (settleSweep v)) (hf ▸ hopen)
      have hposted := ((judgeStall_posted f).mono (kinds' := [5, 7]) (by simp)).trans ((settleSweep_posted _).mono (by simp))
      have hmp : (settleSweep (judgeStall f)).mp = { s.mp with
          slots := s.mp.slots.set slot (.orphaned .read line sent),
          stallMark := (settleSweep (judgeStall f)).mp.stallMark } := by
        simp only [settleSweep_frame]
        rw [(judgeStall_found f).1, hf]
        simp [orphanSlot, ownerPurpose]
      refine ⟨_, z, hexec, by simpa using hcontexts, hpieces, hworst.trans (worseRead_if _ _ _), hbuffer,
        by simpa using hready, ?_, ?_, ?_, ?_, ?_, ?_, fun hc => ?_, fun hc _ hp hstall => ?_, nofun, fun _ => ⟨hmp, fun hp => ?_⟩⟩
      iterate 6 · simp only [settleSweep_frame, judgeStall_frame]; rw [hf]; simp [orphanSlot]
      · rw [hnu, if_neg (by rw [Bool.not_eq_true]; exact hc)] at hposted
        exact hposted.posted.queue_behind
      · have hnone : f.mp.slots.cells.all slotOrphaned = false := by
          simpa [judgeStall_slots] using hstall
        rw [(settleSweep_rsw_of_not_pacing (by rw [hf]; simpa [orphanSlot] using hp)).2,
          judgeStall_not_stalled (.inl hnone), hnu, if_pos (by exact hc)]
        rfl
      · rw [(settleSweep_rsw_of_not_pacing (by rw [hf]; simpa [orphanSlot] using hp)).1, hf]
        simp [orphanSlot]

end Sys2Proof.Machine
end

section
/-! The grants to the WRITE and to the READ class (R26 to R32, R74 to R78, R119). -/

namespace Sys2Proof.Machine

/-! ## A claim that begins (R105) -/

theorem claimBegan_ready {s : State} {k : Fin 8} {line : Nat} (h : s.rsw.engine = .ready k line) :
    claimBegan line s = setEngine (.blocked k line) s := by simp only [claimBegan, h, if_true]

theorem claimBegan_other {s : State} {line : Nat} (h : ∀ k, s.rsw.engine ≠ .ready k line) : claimBegan line s = s := by
  unfold claimBegan
  split
  · rename_i k target he
    exact if_neg fun (ht : target = line) => h k (ht ▸ he)
  all_goals rfl

/-! ## A grant to the WRITE class -/

theorem grantTo_write {s : State} {slot : Fin 16} {i : Fin 32} {e : Entry} (hi : firstEligible s = some i)
    (he : s.lat.entries.get i = some e) : grantTo slot .write s =
      { issueEntry slot i e s with mp := { (issueEntry slot i e s).mp with turn := .read } } := by
  simp only [grantTo, grantWrite, hi, he]
  rfl

/-- The state of an issue before the engine looks at its claim. -/
def issuedState (slot : Fin 16) (i : Fin 32) (e : Entry) (s : State) : State :=
  let s' := engageSlot slot (issueRequest slot i (issuedEntry s e)).1 e.line (issueRequest slot i (issuedEntry s e)).2 s
  { s' with
    lat := { s.lat with
      entries := s.lat.entries.set i (some (issuedEntry s e)), issueQueue := s.lat.issueQueue.filter (fun j => j != i) },
    rsw := { s.rsw with ahead := aheadAfterIssue s e } }

theorem issueEntry_eq (slot : Fin 16) (i : Fin 32) (e : Entry) (s : State) :
    issueEntry slot i e s = claimBegan e.line (issuedState slot i e s) := rfl

theorem issueEntry_found (slot : Fin 16) (i : Fin 32) (e : Entry) (s : State) :
    (issueEntry slot i e s).lat = { s.lat with
      entries := s.lat.entries.set i (some (issuedEntry s e)),
      issueQueue := s.lat.issueQueue.filter (fun j => j != i) } ∧
    (issueEntry slot i e s).mp = { s.mp with
      slots := s.mp.slots.set slot
        (.busy (issueRequest slot i (issuedEntry s e)).1 e.line false (s.now + s.mli.items.memoryTimeout.toNat)),
      sendOrder := s.mp.sendOrder ++ [(issueRequest slot i (issuedEntry s e)).2] } := by
  rw [issueEntry_eq]
  exact ⟨(claimBegan_frame _ _).2.1, (claimBegan_frame _ _).2.2.2.2.2.1⟩

theorem issueEntry_rsw_ready {s : State} {e : Entry} {k : Fin 8} (h : s.rsw.engine = .ready k e.line) (slot : Fin 16)
    (i : Fin 32) : (issueEntry slot i e s).rsw = { s.rsw with ahead := aheadAfterIssue s e, engine := .blocked k e.line } := by
  rw [issueEntry_eq, claimBegan_ready (s := issuedState slot i e s) h]
  rfl

theorem issueEntry_rsw_other {s : State} {e : Entry} (h : ∀ k, s.rsw.engine ≠ .ready k e.line) (slot : Fin 16)
    (i : Fin 32) : (issueEntry slot i e s).rsw = { s.rsw with ahead := aheadAfterIssue s e } := by
  rw [issueEntry_eq, claimBegan_other (s := issuedState slot i e s) h]
  rfl

/-! ### The fill (R28 to R31) -/

theorem fillFor_none {s : State} {e : Entry} (h : cellsFull e.cells = true) : fillFor s e = .none := if_pos h

theorem fillFor_fetch {s : State} {e : Entry} (h : cellsFull e.cells = false)
    (hp : uninitialisedPattern s.rsw e.line = none) : fillFor s e = .fetch := by
  simp [fillFor, h, hp]

theorem fillFor_uninitialised {s : State} {e : Entry} {pattern : Table Byte 8} (h : cellsFull e.cells = false)
    (hp : uninitialisedPattern s.rsw e.line = some pattern) : fillFor s e = .pattern := by
  simp [fillFor, h, hp]

theorem regionOf_of_uninitialised {u : Rsw} {line : Nat} {pattern : Table Byte 8}
    (h : uninitialisedPattern u line = some pattern) : ∃ k, regionOf u line = some k := by
  unfold uninitialisedPattern at h
  split at h
  · rename_i k hk; exact ⟨k, hk⟩
  · cases h

/-- Settles O18. -/
theorem grantIssuesTheOldestEligibleEntry : Obligations.GrantIssuesTheOldestEligibleEntry := by
  intro time n i e s hs hslot hcls hi he
  obtain ⟨u, hu⟩ : ∃ u : State, u = grantTo n .write (atTime time s) := ⟨_, rfl⟩
  have hgrant := hu.trans (grantTo_write (s := atTime time s) (slot := n) hi he)
  have hexec : exec (.grant time) s = .next (settleSweep u) := by
    rw [exec_eventAct (c := .grant time) rfl hs, grantOne_granted (s := atTime time s) hslot hcls, hu]
  obtain ⟨hlat, hmp⟩ := issueEntry_found n i e (atTime time s)
  have hready : ∀ k, s.rsw.engine = .ready k e.line →
      u.rsw = { s.rsw with ahead := aheadAfterIssue s e, engine := .blocked k e.line } := fun k hk => by
    rw [hgrant]
    exact issueEntry_rsw_ready (s := atTime time s) hk n i
  have hother : (∀ k, s.rsw.engine ≠ .ready k e.line) → u.rsw = { s.rsw with ahead := aheadAfterIssue s e } := fun h => by
    rw [hgrant]
    exact issueEntry_rsw_other (s := atTime time s) h n i
  have hpaced : ∀ w, s.rsw.engine = .pacing w → u.rsw = { s.rsw with ahead := aheadAfterIssue s e } := fun w hw =>
    hother fun k hk => nomatch hw.symm.trans hk
  have hnp : (∀ w, s.rsw.engine ≠ .pacing w) → ∀ w, u.rsw.engine ≠ .pacing w := fun h w => by
    by_cases hr : ∃ k, s.rsw.engine = .ready k e.line
    · obtain ⟨k, hk⟩ := hr
      rw [hready k hk]
      nofun
    · rw [hother fun k hk => hr ⟨k, hk⟩]
      exact h w
  have hframe : u.mc = s.mc ∧ u.mli = s.mli ∧ u.nu = s.nu := by rw [hgrant]; simp [atTime]
  obtain ⟨hmc, hmli, hnu⟩ := hframe
  refine ⟨settleSweep u, issuedEntry s e, (issueRequest n i (issuedEntry s e)).1, (issueRequest n i (issuedEntry s e)).2,
    aheadAfterIssue s e, hexec, ?_, ?_, fun hfull => ?_, fun hfull hp => ?_, fun pattern hfull hp => ?_, fun k hk => ?_,
    fun hr hp => ?_, fun hp => ?_, fun w hw hlevel hroom => ?_, fun w hw hlevel => ?_, ?_⟩
  · rw [(settleSweep_frame u).2.1, hgrant]
    exact hlat
  · rw [(settleSweep_frame u).2.2.2.2.1, hgrant]
    exact congrArg (fun m : Mp => { m with turn := .read }) hmp
  · rw [issuedEntry, aheadAfterIssue, fillFor_none hfull]
    exact ⟨rfl, rfl, rfl, rfl⟩
  · rw [issuedEntry, aheadAfterIssue, fillFor_fetch hfull hp]
    exact ⟨rfl, rfl, rfl, rfl⟩
  · obtain ⟨k, hk⟩ := regionOf_of_uninitialised hp
    rw [issuedEntry, aheadAfterIssue, fillFor_uninitialised hfull hp, hp, hk]
    exact ⟨rfl, fillCells_get e.cells (patternByte pattern), rfl, rfl, k, rfl, rfl⟩
  · rw [(settleSweep_rsw_of_not_pacing (hnp fun w hw => nomatch hw.symm.trans hk)).1, hready k hk]
  · rw [(settleSweep_rsw_of_not_pacing (hnp hp)).1, hother hr]
  · rw [(settleSweep_rsw_of_not_pacing (hnp hp)).2, hnu]
  · have hrsw := hpaced w hw
    obtain ⟨hrsw', hnu'⟩ := settleSweep_rsw_of_room (s := u) (by rw [hrsw, hmli]; exact hlevel) (by rw [hrsw]; exact hroom)
    exact ⟨hrsw'.trans hrsw, hnu'.trans hnu⟩
  · have hrsw := hpaced w hw
    have hsettled := settleSweep_evaluated (s := u) (u := w) (by rw [hrsw]; exact hw) (.inl (by rw [hrsw, hmli]; exact hlevel))
    rwa [hrsw, hmc] at hsettled
  · rw [settleSweep_only, hgrant]
    simp [atTime]

end Sys2Proof.Machine
end

section
/-! What resolving a list of read pieces without memory makes of the read path (R74, R75, R84). -/

namespace Sys2Proof.Machine

/-! ## One piece -/

/-- The bytes of a piece that needs no memory: the pending bytes, over the pattern where the line is uninitialised (R74, R75). -/
def readBytes (s : State) (p : Span) : List Byte :=
  (spanOffsets p).map (fun k => (pendingByte s p k).getD
    (match uninitialisedPattern s.rsw p.line with
     | some pattern => patternByte pattern k
     | none => 0#8))

theorem pendingByte_isSome {s : State} {p : Span} (h : covered s p = true) {k : Fin 64} (hk : k ∈ spanOffsets p) :
    ∃ b, pendingByte s p k = some b :=
  Option.isSome_iff_exists.1 (List.all_eq_true.1 h k hk)

/-- The bytes under a piece do not show where pending bytes cover it. -/
theorem overlaid_covered {s : State} {p : Span} (h : covered s p = true) (under under' : Fin 64 → Byte) :
    overlaid s p under = overlaid s p under' :=
  List.map_congr_left fun k hk => by
    obtain ⟨b, hb⟩ := pendingByte_isSome h hk
    simp [hb]

theorem resolve_memory_iff (s : State) (p : Span) :
    resolve s p = .memory ↔ covered s p = false ∧ uninitialisedPattern s.rsw p.line = none := by
  unfold resolve
  cases covered s p with
  | true => simp
  | false => cases uninitialisedPattern s.rsw p.line <;> simp

/-- A piece that needs no memory becomes DONE with its bytes, and is counted as forwarded or as answered from the pattern. -/
theorem resolvePiece_resolved {s : State} {p : Span} (h : resolve s p ≠ .memory) (c : Fin 16) (i : Nat) :
    resolvePiece c i p s =
      (finishPiece c i .ok (readBytes s p) (countOne (if covered s p then .forwardedReads else .patternReads) s), false) := by
  rw [Ne, resolve_memory_iff, not_and_or, Bool.not_eq_false] at h
  cases hc : covered s p with
  | true =>
    have hresolve : resolve s p = .forward (readBytes s p) := by
      rw [resolve, hc, if_pos rfl, overlaid_covered hc]; rfl
    simp only [resolvePiece, hresolve, if_true]
  | false =>
    obtain ⟨pattern, hp⟩ := Option.ne_none_iff_exists'.1 (h.resolve_left (by simp [hc]))
    have hresolve : resolve s p = .pattern (readBytes s p) := by
      rw [resolve, hc, if_neg (by simp), readBytes, hp]; rfl
    simp only [resolvePiece, hresolve]
    rfl

theorem resolvePiece_unresolved {s : State} {p : Span} (h : resolve s p = .memory) (c : Fin 16) (i : Nat) :
    resolvePiece c i p s = (s, true) := by
  simp only [resolvePiece, h]

/-! ## A list of pieces -/

/-- The pieces of the list, each with its context and index, resolved one after another. -/
def resolvedAll (l : List (Fin 16 × Nat × Span)) (s : State) : State :=
  l.foldl (fun s b => (resolvePiece b.1 b.2.1 b.2.2 s).1) s

theorem resolvedAll_cons (b : Fin 16 × Nat × Span) (l : List (Fin 16 × Nat × Span)) (s : State) :
    resolvedAll (b :: l) s = resolvedAll l (resolvePiece b.1 b.2.1 b.2.2 s).1 := rfl

theorem resolvedAll_concat (l : List (Fin 16 × Nat × Span)) (b : Fin 16 × Nat × Span) (s : State) :
    resolvedAll (l ++ [b]) s = (resolvePiece b.1 b.2.1 b.2.2 (resolvedAll l s)).1 := by
  rw [resolvedAll, List.foldl_append]; rfl

theorem resolvedAll_only (l : List (Fin 16 × Nat × Span)) (s : State) :
    resolvedAll l s = { s with rdp := (resolvedAll l s).rdp, nu := (resolvedAll l s).nu } := by
  induction l generalizing s with
  | nil => rfl
  | cons b rest ih => rw [resolvedAll_cons, ih, resolvePiece_only]

theorem resolve_congr {s t : State} (hlat : t.lat = s.lat) (hrsw : t.rsw = s.rsw) (p : Span) :
    resolve t p = resolve s p ∧ covered t p = covered s p ∧ readBytes t p = readBytes s p := by
  have hpending : ∀ k, pendingByte t p k = pendingByte s p k := fun k => by rw [pendingByte, pendingByte, hlat]
  have hcovered : covered t p = covered s p := by simp only [covered, hpending]
  refine ⟨?_, hcovered, ?_⟩
  · simp only [resolve, hcovered, overlaid, hpending, hrsw]
  · simp only [readBytes, hpending, hrsw]

theorem resolvedAll_same (l : List (Fin 16 × Nat × Span)) (s : State) (p : Span) :
    resolve (resolvedAll l s) p = resolve s p ∧ covered (resolvedAll l s) p = covered s p ∧
    readBytes (resolvedAll l s) p = readBytes s p :=
  resolve_congr (by rw [resolvedAll_only]) (by rw [resolvedAll_only]) p

/-- The last piece of a list, where it needs no memory. -/
theorem resolvedAll_concat_resolved {s : State} (l : List (Fin 16 × Nat × Span)) {b : Fin 16 × Nat × Span}
    (h : resolve s b.2.2 ≠ .memory) : resolvedAll (l ++ [b]) s =
      finishPiece b.1 b.2.1 .ok (readBytes s b.2.2)
        (countOne (if covered s b.2.2 then .forwardedReads else .patternReads) (resolvedAll l s)) := by
  obtain ⟨hresolve, hcovered, hbytes⟩ := resolvedAll_same l s b.2.2
  rw [resolvedAll_concat, resolvePiece_resolved (by rw [hresolve]; exact h), hcovered, hbytes]

/-! ## The counters -/

theorem resolvedAll_nu {s : State} {l : List (Fin 16 × Nat × Span)} (h : ∀ b ∈ l, resolve s b.2.2 ≠ .memory) :
    (resolvedAll l s).nu = { s.nu with counters := { s.nu.counters with
      forwardedReads := countUp^[l.countP (fun b => covered s b.2.2)] s.nu.counters.forwardedReads,
      patternReads := countUp^[l.countP (fun b => !covered s b.2.2)] s.nu.counters.patternReads } } := by
  induction l using List.reverseRecOn with
  | nil => rfl
  | append_singleton l b ih =>
    have hl := ih fun x hx => h x (List.mem_append_left _ hx)
    rw [resolvedAll_concat_resolved l (h b (by simp)), (finishPiece_frame _ _ _ _ _).2.2.2.2.2.2.2.1]
    simp only [List.countP_append, List.countP_cons, List.countP_nil, Nat.zero_add]
    cases hc : covered s b.2.2
    · simp only [countOne, hl, Bool.not_false, if_true, Function.iterate_succ_apply']
      rfl
    · simp only [countOne, hl, Bool.not_true, if_true, Function.iterate_succ_apply']
      rfl

/-! ## The contexts -/

/-- A context after the pieces of the list have become DONE. -/
def finishedContext (s : State) (l : List (Fin 16 × Nat × Span)) (x : Context) : Context :=
  l.foldl (fun x b => contextWithDone x b.2.1 .ok (readBytes s b.2.2)) x

theorem resolvedAll_contexts {s : State} {l : List (Fin 16 × Nat × Span)} (h : ∀ b ∈ l, resolve s b.2.2 ≠ .memory)
    (c : Fin 16) : (resolvedAll l s).rdp.contexts.get c =
      (s.rdp.contexts.get c).map (finishedContext s (l.filter (fun b => b.1 == c))) := by
  induction l using List.reverseRecOn with
  | nil => cases h : s.rdp.contexts.get c <;> simp [resolvedAll, finishedContext, h]
  | append_singleton l b ih =>
    have hl := ih fun x hx => h x (List.mem_append_left _ hx)
    rw [resolvedAll_concat_resolved l (h b (by simp)), List.filter_append]
    by_cases hb : b.1 = c
    · subst hb
      cases hx : s.rdp.contexts.get b.1 with
      | none =>
        rw [hx] at hl
        simp [finishPiece, countOne, hl]
      | some x =>
        rw [hx] at hl
        rw [finishPiece_rdp (by exact hl)]
        simp [finishedContext]
    · have hother : (finishPiece b.1 b.2.1 .ok (readBytes s b.2.2)
          (countOne (if covered s b.2.2 then .forwardedReads else .patternReads) (resolvedAll l s))).rdp.contexts.get c =
          (resolvedAll l s).rdp.contexts.get c := by
        unfold finishPiece
        split
        · exact Table.get_set_ne _ hb _
        · rfl
      rw [hother, hl]
      simp [hb]

/-- The pieces with those at the given indices DONE. -/
def piecesDone (indices : List Nat) (pieces : List ReadPiece) : List ReadPiece :=
  pieces.zipIdx.map (fun yi => if yi.2 ∈ indices then { yi.1 with state := .done .ok } else yi.1)

theorem getElem?_piecesDone (indices : List Nat) (pieces : List ReadPiece) (j : Nat) :
    (piecesDone indices pieces)[j]? =
      pieces[j]?.map (fun y => if j ∈ indices then { y with state := .done .ok } else y) := by
  simp [piecesDone, List.getElem?_zipIdx, Option.map_map, Function.comp_def]

theorem piecesDone_concat {indices : List Nat} {pieces : List ReadPiece} {i : Nat} {y : ReadPiece}
    (hy : (piecesDone indices pieces)[i]? = some y) :
    (piecesDone indices pieces).set i { y with state := .done .ok } = piecesDone (indices ++ [i]) pieces := by
  rw [getElem?_piecesDone] at hy
  obtain ⟨x, hx, hxy⟩ := Option.map_eq_some_iff.1 hy
  refine List.ext_getElem? fun j => ?_
  by_cases hj : i = j
  · subst hj
    have hlen : i < (piecesDone indices pieces).length := by
      simpa [piecesDone] using (List.getElem?_eq_some_iff.1 hx).1
    rw [List.getElem?_set_self hlen, getElem?_piecesDone, hx, ← hxy]
    simp only [List.mem_append, List.mem_singleton, or_true, if_true, Option.map_some]
    split <;> rfl
  · rw [List.getElem?_set_ne hj, getElem?_piecesDone, getElem?_piecesDone]
    simp [Ne.symm hj]

/-- A list whose pieces are in the context turns these pieces DONE and writes their bytes. -/
theorem finishedContext_found {s : State} {l : List (Fin 16 × Nat × Span)} {x : Context}
    (h : ∀ b ∈ l, ∃ y, x.pieces[b.2.1]? = some y ∧ y.span = b.2.2) : finishedContext s l x = { x with
      pieces := piecesDone (l.map (fun b => b.2.1)) x.pieces,
      buffer := l.foldl (fun buffer b => writeBuffer buffer b.2.2.pos (readBytes s b.2.2)) x.buffer } := by
  induction l using List.reverseRecOn with
  | nil =>
    have hnone : piecesDone [] x.pieces = x.pieces := List.ext_getElem? fun j => by simp [getElem?_piecesDone]
    simp only [finishedContext, List.map_nil, hnone]
    rfl
  | append_singleton l b ih =>
    have hl := ih fun a ha => h a (List.mem_append_left _ ha)
    obtain ⟨y, hy, hspan⟩ := h b (by simp)
    have hget : (piecesDone (l.map (fun b => b.2.1)) x.pieces)[b.2.1]? =
        some (if b.2.1 ∈ l.map (fun b => b.2.1) then { y with state := .done .ok } else y) := by
      rw [getElem?_piecesDone, hy]; rfl
    have hfold : finishedContext s (l ++ [b]) x = contextWithDone (finishedContext s l x) b.2.1 .ok (readBytes s b.2.2) := by
      simp [finishedContext]
    rw [hfold, hl, contextWithDone_found hget, piecesDone_concat hget, worseRead_ok]
    simp only [List.map_append, List.map_cons, List.map_nil, List.foldl_append, List.foldl_cons, List.foldl_nil]
    congr 2
    split <;> rw [← hspan]

/-! ## The contexts that await their response (R84) -/

/-- The pieces of the list are WAITING, each once. -/
structure PiecesWait (s : State) (l : List (Fin 16 × Nat × Span)) : Prop where
  nodup : (l.map (fun b => (b.1, b.2.1))).Nodup
  waiting : ∀ b ∈ l, ∃ x, s.rdp.contexts.get b.1 = some x ∧
    x.pieces[b.2.1]? = some { span := b.2.2, state := .waiting }

theorem PiecesWait.left {s : State} {l l' : List (Fin 16 × Nat × Span)} (h : PiecesWait s (l ++ l')) : PiecesWait s l :=
  ⟨by have := h.nodup; rw [List.map_append] at this; exact (List.nodup_append.1 this).1,
   fun b hb => h.waiting b (List.mem_append_left _ hb)⟩

/-- The pieces of one context, as `finishedContext_found` asks for them. -/
theorem PiecesWait.found {s : State} {l : List (Fin 16 × Nat × Span)} (h : PiecesWait s l) {c : Fin 16} {x : Context}
    (hx : s.rdp.contexts.get c = some x) :
    ∀ b ∈ l.filter (fun b => b.1 == c), ∃ y, x.pieces[b.2.1]? = some y ∧ y.span = b.2.2 := fun b hb => by
  obtain ⟨hmem, hc⟩ := List.mem_filter.1 hb
  obtain ⟨x', hx', hy⟩ := h.waiting b hmem
  rw [eq_of_beq hc, hx] at hx'
  cases hx'
  exact ⟨_, hy, rfl⟩

/-- A piece that is not in the list is as it was. -/
theorem PiecesWait.other_waits {s : State} {l : List (Fin 16 × Nat × Span)} {b : Fin 16 × Nat × Span}
    (h : PiecesWait s (l ++ [b])) (hres : ∀ a ∈ l, resolve s a.2.2 ≠ .memory) :
    ∃ x, (resolvedAll l s).rdp.contexts.get b.1 = some x ∧ x.pieces[b.2.1]? = some { span := b.2.2, state := .waiting } := by
  obtain ⟨x, hx, hy⟩ := h.waiting b (by simp)
  have hnot : b.2.1 ∉ (l.filter (fun a => a.1 == b.1)).map (fun a => a.2.1) := fun hmem => by
    obtain ⟨a, ha, hidx⟩ := List.mem_map.1 hmem
    obtain ⟨hal, hctx⟩ := List.mem_filter.1 ha
    have hnodup := h.nodup
    rw [List.map_append, List.nodup_append] at hnodup
    exact hnodup.2.2 (a.1, a.2.1) (List.mem_map_of_mem hal) (b.1, b.2.1) (by simp)
      (Prod.ext (eq_of_beq hctx) hidx)
  refine ⟨_, by rw [resolvedAll_contexts hres, hx]; rfl, ?_⟩
  rw [finishedContext_found (h.left.found hx)]
  dsimp only
  rw [getElem?_piecesDone, hy, Option.map_some, if_neg hnot]

theorem contextDone_getElem? {x : Context} (h : contextDone x = true) {i : Nat} {y : ReadPiece} (hy : x.pieces[i]? = some y) :
    pieceDone y = true :=
  List.all_eq_true.1 h y (List.mem_of_getElem? hy)

/-- The contexts that the list completes await their response, each once. -/
theorem resolvedAll_ready {s : State} {l : List (Fin 16 × Nat × Span)} (h : PiecesWait s l)
    (hres : ∀ b ∈ l, resolve s b.2.2 ≠ .memory) : ∃ more, (resolvedAll l s).rdp.ready = s.rdp.ready ++ more ∧ more.Nodup ∧
      ∀ c, c ∈ more ↔ (∃ b ∈ l, b.1 = c) ∧
        ∃ z, (resolvedAll l s).rdp.contexts.get c = some z ∧ contextDone z = true := by
  induction l using List.reverseRecOn with
  | nil => exact ⟨[], by simp [resolvedAll], List.nodup_nil, fun c => by simp⟩
  | append_singleton l b ih =>
    have hresl : ∀ a ∈ l, resolve s a.2.2 ≠ .memory := fun a ha => hres a (List.mem_append_left _ ha)
    obtain ⟨more, hready, hnodup, hmore⟩ := ih h.left hresl
    obtain ⟨x, hx, hy⟩ := h.other_waits hresl
    have hnot : b.1 ∉ more := fun hmem => by
      obtain ⟨-, z, hz, hdone⟩ := (hmore b.1).1 hmem
      cases hx.symm.trans hz
      exact nomatch contextDone_getElem? hdone hy
    rw [resolvedAll_concat_resolved l (hres b (by simp)), finishPiece_rdp (by exact hx)]
    have hother : ∀ c, c ≠ b.1 → (((∃ a ∈ l ++ [b], a.1 = c) ↔ ∃ a ∈ l, a.1 = c)) := fun c hc => by
      simp [Ne.symm hc]
    by_cases hdone : contextDone (contextWithDone x b.2.1 .ok (readBytes s b.2.2)) = true
    · refine ⟨more ++ [b.1], ?_, ?_, fun c => ?_⟩
      · dsimp only
        rw [if_pos hdone]
        exact (congrArg (· ++ [b.1]) hready).trans (List.append_assoc _ _ _)
      · exact List.nodup_append.2 ⟨hnodup, by simp, fun a ha a' ha' => by
          rw [List.mem_singleton.1 ha']
          exact fun hab => hnot (hab ▸ ha)⟩
      · dsimp only
        by_cases hc : c = b.1
        · subst hc
          simp [hdone]
        · rw [Table.get_set_ne _ (Ne.symm hc), hother c hc]
          simpa [hc] using hmore c
    · refine ⟨more, ?_, hnodup, fun c => ?_⟩
      · dsimp only
        rw [if_neg hdone]
        exact hready
      · dsimp only
        by_cases hc : c = b.1
        · subst hc
          simp [hdone, hnot]
        · rw [Table.get_set_ne _ (Ne.symm hc), hother c hc]
          exact hmore c

end Sys2Proof.Machine
end

section
/-! A grant to the READ class (R77, R78, R119). -/

namespace Sys2Proof.Machine

/-! ## The candidates (R77) -/

theorem mem_waitingPieces {s : State} {c : Fin 16} {b : Fin 16 × Nat × Span} (h : b ∈ waitingPieces s c) :
    b.1 = c ∧ ∃ x, s.rdp.contexts.get b.1 = some x ∧ x.pieces[b.2.1]? = some { span := b.2.2, state := .waiting } := by
  unfold waitingPieces at h
  split at h
  · rename_i x hx
    obtain ⟨⟨y, i⟩, hmem, rfl⟩ := List.mem_map.1 h
    obtain ⟨hzip, hfilter⟩ := List.mem_filter.1 hmem
    obtain ⟨hwaiting, -⟩ := of_decide_eq_true hfilter
    refine ⟨rfl, x, hx, ?_⟩
    rw [List.mem_zipIdx_iff_getElem?.1 hzip]
    exact congrArg some (congrArg (ReadPiece.mk y.span) hwaiting)
  · cases h

theorem nodup_waitingPieces (s : State) (c : Fin 16) : ((waitingPieces s c).map (fun b => (b.1, b.2.1))).Nodup := by
  unfold waitingPieces
  split
  · rename_i x _
    rw [List.map_map]
    have hindices : (x.pieces.zipIdx.map Prod.snd).Nodup := by
      rw [List.zipIdx_map_snd]
      exact List.nodup_range'
    have hpairs := (hindices.map (f := fun i => (c, i)) fun _ _ h => congrArg Prod.snd h)
    rw [List.map_map] at hpairs
    exact (List.filter_sublist.map _).nodup hpairs
  · exact List.nodup_nil

theorem nodup_contextsByAge (u : Rdp) : (contextsByAge u).Nodup :=
  (List.perm_insertionSort _ _).nodup_iff.2 (Table.indices_nodup _ _)

/-- The candidates of the READ class are WAITING pieces, each once. -/
theorem readCandidates_wait (s : State) : PiecesWait s (readCandidates s) where
  nodup := by
    rw [readCandidates, List.map_flatMap, List.nodup_flatMap]
    refine ⟨fun c _ => nodup_waitingPieces s c, (nodup_contextsByAge s.rdp).imp fun hne a ha ha' => hne ?_⟩
    obtain ⟨b, hb, rfl⟩ := List.mem_map.1 ha
    obtain ⟨b', hb', hpair⟩ := List.mem_map.1 ha'
    rw [← (mem_waitingPieces hb).1, ← (mem_waitingPieces hb').1]
    exact (congrArg Prod.fst hpair).symm
  waiting b hb := by
    obtain ⟨c, -, hb⟩ := List.mem_flatMap.1 hb
    exact (mem_waitingPieces hb).2

/-! ## What the grant makes of them -/

theorem grantRead_resolved (slot : Fin 16) {before : List (Fin 16 × Nat × Span)} (rest : List (Fin 16 × Nat × Span)) {s : State}
    (h : ∀ b ∈ before, resolve s b.2.2 ≠ .memory) :
    grantRead slot (before ++ rest) s = grantRead slot rest (resolvedAll before s) := by
  induction before generalizing s with
  | nil => rfl
  | cons b before ih =>
    have hb := h b (by simp)
    have hsame : ∀ p, resolve (resolvePiece b.1 b.2.1 b.2.2 s).1 p = resolve s p := fun p =>
      (resolve_congr (by rw [resolvePiece_only]) (by rw [resolvePiece_only]) p).1
    rw [resolvedAll_cons, ← ih fun a ha => by rw [hsame]; exact h a (List.mem_cons_of_mem _ ha)]
    rw [List.cons_append, grantRead]
    simp only [resolvePiece_resolved hb]
    rfl

/-- The piece that needs memory receives the slot (R78). -/
def readServed (slot c : Fin 16) (i : Nat) (p : Span) (s : State) : State :=
  claimBegan p.line (setPieceState c i .reading (engageSlot slot (.readOf c i) p.line (.lineRead slot p.line) s))

theorem grantRead_memory {s : State} {p : Span} (h : resolve s p = .memory) (slot c : Fin 16) (i : Nat)
    (rest : List (Fin 16 × Nat × Span)) : grantRead slot ((c, i, p) :: rest) s = readServed slot c i p s := by
  rw [grantRead]
  simp only [resolvePiece_unresolved h, if_true]
  rfl

theorem setPieceState_found {c : Fin 16} {x : Context} {s : State} (hx : s.rdp.contexts.get c = some x) (i : Nat)
    (state : PieceState) : (setPieceState c i state s).rdp = { s.rdp with
      contexts := s.rdp.contexts.set c (some { x with pieces := x.pieces.modify i (fun p => { p with state := state }) }) } := by
  simp only [setPieceState, hx]

/-- The state after a grant to the READ class, before the turn passes on: the pieces `before` have become DONE, and the next
candidate has received the slot. -/
def readGranted (slot : Fin 16) (before rest : List (Fin 16 × Nat × Span)) (s : State) : State :=
  match rest with
  | [] => resolvedAll before s
  | (c, i, p) :: _ => readServed slot c i p (resolvedAll before s)

theorem grantTo_read {slot : Fin 16} {before rest : List (Fin 16 × Nat × Span)} {s : State}
    (hsplit : readCandidates s = before ++ rest) (hbefore : ∀ b ∈ before, resolve s b.2.2 ≠ .memory)
    (hrest : ∀ x, rest.head? = some x → resolve s x.2.2 = .memory) : grantTo slot .read s =
      { readGranted slot before rest s with mp := { (readGranted slot before rest s).mp with turn := .sweep } } := by
  have hgrant : grantRead slot (readCandidates s) s = readGranted slot before rest s := by
    rw [hsplit, grantRead_resolved slot rest hbefore]
    cases rest with
    | nil => rfl
    | cons b rest =>
      obtain ⟨c, i, p⟩ := b
      refine grantRead_memory ?_ slot c i rest
      rw [(resolvedAll_same before s p).1]
      exact hrest _ rfl
  simp only [grantTo, hgrant]
  rfl

theorem readGranted_only (slot : Fin 16) (before rest : List (Fin 16 × Nat × Span)) (s : State) :
    readGranted slot before rest s = { s with
      rdp := (readGranted slot before rest s).rdp, rsw := (readGranted slot before rest s).rsw,
      mp := (readGranted slot before rest s).mp, nu := (resolvedAll before s).nu } := by
  cases rest with
  | nil =>
    have hrsw : (resolvedAll before s).rsw = s.rsw := by rw [resolvedAll_only]
    have hmp : (resolvedAll before s).mp = s.mp := by rw [resolvedAll_only]
    rw [readGranted, hrsw, hmp]
    exact resolvedAll_only before s
  | cons b rest =>
    obtain ⟨c, i, p⟩ := b
    rw [readGranted, readServed, claimBegan_only, setPieceState_only, engageSlot, resolvedAll_only]

theorem readGranted_mp_served (slot c : Fin 16) (i : Nat) (p : Span) (before rest : List (Fin 16 × Nat × Span)) (s : State) :
    (readGranted slot before ((c, i, p) :: rest) s).mp = { s.mp with
      slots := s.mp.slots.set slot (.busy (.readOf c i) p.line false (s.now + s.mli.items.memoryTimeout.toNat)),
      sendOrder := s.mp.sendOrder ++ [.lineRead slot p.line] } := by
  simp only [readGranted, readServed, claimBegan_frame]
  rw [setPieceState_only, engageSlot, resolvedAll_only]
  rfl

theorem readGranted_rsw_served (slot c : Fin 16) (i : Nat) (p : Span) (before rest : List (Fin 16 × Nat × Span)) (s : State) :
    (∀ k, s.rsw.engine = .ready k p.line →
      (readGranted slot before ((c, i, p) :: rest) s).rsw = { s.rsw with engine := .blocked k p.line }) ∧
    ((∀ k, s.rsw.engine ≠ .ready k p.line) → (readGranted slot before ((c, i, p) :: rest) s).rsw = s.rsw) := by
  have hrsw : (setPieceState c i .reading (engageSlot slot (.readOf c i) p.line (.lineRead slot p.line)
      (resolvedAll before s))).rsw = s.rsw := by
    rw [setPieceState_only, engageSlot, resolvedAll_only]
  refine ⟨fun k hk => ?_, fun h => ?_⟩
  · rw [readGranted, readServed, claimBegan_ready (by rw [hrsw]; exact hk), setEngine, hrsw]
  · rw [readGranted, readServed, claimBegan_other (by rw [hrsw]; exact h), hrsw]

/-! ### The contexts -/

theorem readServed_rdp (slot c : Fin 16) (i : Nat) (p : Span) (s : State) :
    (readServed slot c i p s).rdp = (setPieceState c i .reading (engageSlot slot (.readOf c i) p.line (.lineRead slot p.line) s)).rdp :=
  (claimBegan_frame _ _).2.2.2.1

theorem readServed_contexts {slot c d : Fin 16} {i : Nat} {p : Span} {s : State} {x : Context}
    (hx : s.rdp.contexts.get d = some x) : (readServed slot c i p s).rdp.contexts.get d =
      some { x with pieces := if c = d then x.pieces.modify i (fun y => { y with state := .reading }) else x.pieces } := by
  rw [readServed_rdp]
  by_cases hcd : c = d
  · subst hcd
    rw [setPieceState_found (by exact hx), if_pos rfl]
    exact Table.get_set_self _ _ _
  · rw [if_neg hcd]
    unfold setPieceState
    split
    · exact (Table.get_set_ne _ hcd _).trans hx
    · exact hx

theorem readServed_contexts_none {slot c d : Fin 16} {i : Nat} {p : Span} {s : State}
    (hx : s.rdp.contexts.get d = none) : (readServed slot c i p s).rdp.contexts.get d = none := by
  rw [readServed_rdp]
  unfold setPieceState
  split
  · rename_i x hc
    refine (Table.get_set_ne _ (fun hcd => ?_) _).trans hx
    subst hcd
    exact nomatch hx.symm.trans hc
  · exact hx

theorem readServed_ready (slot c : Fin 16) (i : Nat) (p : Span) (s : State) :
    (readServed slot c i p s).rdp.ready = s.rdp.ready := by
  rw [readServed_rdp]
  unfold setPieceState
  split <;> rfl

/-- The state of a piece after the grant: DONE among `before`, READING at the head of `rest`, else as it was. -/
def grantedPiece (before rest : List (Fin 16 × Nat × Span)) (c : Fin 16) (j : Nat) (y : ReadPiece) : ReadPiece :=
  if (c, j, y.span) ∈ before then { y with state := .done .ok }
  else if rest.head? = some (c, j, y.span) then { y with state := .reading }
  else y

/-- The indices of a context's pieces in the list, and the pieces themselves. -/
theorem mem_indices_iff {s : State} {l : List (Fin 16 × Nat × Span)} (h : PiecesWait s l) {c : Fin 16} {x : Context}
    (hx : s.rdp.contexts.get c = some x) {j : Nat} {y : ReadPiece} (hy : x.pieces[j]? = some y) :
    j ∈ (l.filter (fun b => b.1 == c)).map (fun b => b.2.1) ↔ (c, j, y.span) ∈ l := by
  refine ⟨fun hmem => ?_, fun hmem => List.mem_map.2 ⟨_, List.mem_filter.2 ⟨hmem, beq_self_eq_true c⟩, rfl⟩⟩
  obtain ⟨b, hb, rfl⟩ := List.mem_map.1 hmem
  obtain ⟨z, hz, hspan⟩ := h.found hx b hb
  obtain ⟨hbl, hbc⟩ := List.mem_filter.1 hb
  cases hy.symm.trans hz
  rw [hspan, ← eq_of_beq hbc]
  exact hbl

theorem getElem?_grantedPieces (before rest : List (Fin 16 × Nat × Span)) (c : Fin 16) (pieces : List ReadPiece) (j : Nat) :
    (pieces.zipIdx.map (fun yi => grantedPiece before rest c yi.2 yi.1))[j]? =
      pieces[j]?.map (grantedPiece before rest c j) := by
  simp [List.getElem?_map, List.getElem?_zipIdx, Option.map_map, Function.comp_def]

theorem grantedPieces_nil {s : State} {before : List (Fin 16 × Nat × Span)} (hw : PiecesWait s before) {c : Fin 16}
    {x : Context} (hx : s.rdp.contexts.get c = some x) :
    piecesDone ((before.filter (fun b => b.1 == c)).map (fun b => b.2.1)) x.pieces =
      x.pieces.zipIdx.map (fun yi => grantedPiece before [] c yi.2 yi.1) := by
  refine List.ext_getElem? fun j => ?_
  rw [getElem?_piecesDone, getElem?_grantedPieces]
  cases hy : x.pieces[j]? with
  | none => rfl
  | some y => simp only [Option.map_some, grantedPiece, mem_indices_iff hw hx hy, List.head?_nil, reduceCtorEq, if_false]

theorem grantedPieces_cons {s : State} {before rest : List (Fin 16 × Nat × Span)} {d : Fin 16} {i : Nat} {p : Span}
    (hw : PiecesWait s (before ++ (d, i, p) :: rest)) {c : Fin 16} {x : Context} (hx : s.rdp.contexts.get c = some x) :
    (if d = c then
      (piecesDone ((before.filter (fun b => b.1 == c)).map (fun b => b.2.1)) x.pieces).modify i
        (fun y => { y with state := .reading })
     else piecesDone ((before.filter (fun b => b.1 == c)).map (fun b => b.2.1)) x.pieces) =
      x.pieces.zipIdx.map (fun yi => grantedPiece before ((d, i, p) :: rest) c yi.2 yi.1) := by
  refine List.ext_getElem? fun j => ?_
  rw [getElem?_grantedPieces]
  have hhead : d = c → i = j → ∀ y, x.pieces[j]? = some y → y.span = p ∧ (c, j, y.span) ∉ before := by
    rintro rfl rfl y hy
    obtain ⟨x', hx', hy'⟩ := hw.waiting (d, i, p) (by simp)
    cases hx.symm.trans hx'
    cases hy.symm.trans hy'
    refine ⟨rfl, fun hmem => ?_⟩
    have hnodup := hw.nodup
    rw [List.map_append, List.nodup_append] at hnodup
    exact hnodup.2.2 (d, i) (List.mem_map_of_mem (f := fun b => (b.1, b.2.1)) hmem) (d, i) (by simp) rfl
  cases hy : x.pieces[j]? with
  | none =>
    split
    · rw [List.getElem?_modify, getElem?_piecesDone, hy]; rfl
    · rw [getElem?_piecesDone, hy]; rfl
  | some y =>
    have hdone := mem_indices_iff (c := c) hw.left hx hy
    by_cases hserved : d = c ∧ i = j
    · obtain ⟨hspan, hnot⟩ := hhead hserved.1 hserved.2 y hy
      have hreading : grantedPiece before ((d, i, p) :: rest) c j y = { y with state := .reading } := by
        rw [grantedPiece, if_neg hnot, if_pos (by rw [hserved.1, hserved.2, hspan]; rfl)]
      rw [if_pos hserved.1, List.getElem?_modify, getElem?_piecesDone, hy, Option.map_some, Option.map_some,
        if_neg fun h => hnot (hdone.1 h), hreading]
      simp [hserved.2]
    · have hplain : (if d = c then
          (piecesDone ((before.filter (fun b => b.1 == c)).map (fun b => b.2.1)) x.pieces).modify i
            (fun y => { y with state := .reading })
          else piecesDone ((before.filter (fun b => b.1 == c)).map (fun b => b.2.1)) x.pieces)[j]? =
          (piecesDone ((before.filter (fun b => b.1 == c)).map (fun b => b.2.1)) x.pieces)[j]? := by
        split
        · rename_i hd
          have hij : i ≠ j := fun hi => hserved ⟨hd, hi⟩
          simp [hij]
        · rfl
      have hhead' : ¬ (((d, i, p) :: rest).head? = some (c, j, y.span)) := fun h => by
        cases h
        exact hserved ⟨rfl, rfl⟩
      rw [hplain, getElem?_piecesDone, hy]
      simp only [Option.map_some, grantedPiece, hdone, hhead', if_false]

theorem readGranted_contexts {slot : Fin 16} {before rest : List (Fin 16 × Nat × Span)} {s : State}
    (hw : PiecesWait s (before ++ rest)) (hbefore : ∀ b ∈ before, resolve s b.2.2 ≠ .memory) {c : Fin 16} {x : Context}
    (hx : s.rdp.contexts.get c = some x) : (readGranted slot before rest s).rdp.contexts.get c = some { x with
      pieces := x.pieces.zipIdx.map (fun yi => grantedPiece before rest c yi.2 yi.1),
      buffer := (before.filter (fun b => b.1 == c)).foldl
        (fun buffer b => writeBuffer buffer b.2.2.pos (readBytes s b.2.2)) x.buffer } := by
  have hdone : (resolvedAll before s).rdp.contexts.get c = some { x with
      pieces := piecesDone ((before.filter (fun b => b.1 == c)).map (fun b => b.2.1)) x.pieces,
      buffer := (before.filter (fun b => b.1 == c)).foldl
        (fun buffer b => writeBuffer buffer b.2.2.pos (readBytes s b.2.2)) x.buffer } := by
    rw [resolvedAll_contexts hbefore, hx, Option.map_some, finishedContext_found (hw.left.found hx)]
  cases rest with
  | nil =>
    rw [List.append_nil] at hw
    rw [readGranted, hdone, grantedPieces_nil hw hx]
  | cons b rest =>
    obtain ⟨d, i, p⟩ := b
    rw [readGranted, readServed_contexts hdone, grantedPieces_cons hw hx]

theorem readGranted_contexts_none {slot : Fin 16} {before rest : List (Fin 16 × Nat × Span)} {s : State}
    (hbefore : ∀ b ∈ before, resolve s b.2.2 ≠ .memory) {c : Fin 16} (hx : s.rdp.contexts.get c = none) :
    (readGranted slot before rest s).rdp.contexts.get c = none := by
  have hdone : (resolvedAll before s).rdp.contexts.get c = none := by rw [resolvedAll_contexts hbefore, hx]; rfl
  cases rest with
  | nil => exact hdone
  | cons b rest => exact readServed_contexts_none hdone

/-- The contexts that the grant completes: those whose pieces `before` were their last (R84). -/
theorem readGranted_ready {slot : Fin 16} {before rest : List (Fin 16 × Nat × Span)} {s : State}
    (hw : PiecesWait s (before ++ rest)) (hbefore : ∀ b ∈ before, resolve s b.2.2 ≠ .memory) : ∃ more,
      (readGranted slot before rest s).rdp.ready = s.rdp.ready ++ more ∧ more.Nodup ∧
      ∀ c, c ∈ more ↔ (∃ b ∈ before, b.1 = c) ∧
        ∃ z, (readGranted slot before rest s).rdp.contexts.get c = some z ∧ z.pieces.all pieceDone = true := by
  obtain ⟨more, hready, hnodup, hmore⟩ := resolvedAll_ready hw.left hbefore
  cases rest with
  | nil => exact ⟨more, hready, hnodup, hmore⟩
  | cons b rest =>
    obtain ⟨d, i, p⟩ := b
    refine ⟨more, (readServed_ready _ _ _ _ _).trans hready, hnodup, fun c => (hmore c).trans (and_congr_right fun _ => ?_)⟩
    rw [readGranted]
    cases hx : (resolvedAll before s).rdp.contexts.get c with
    | none => simp [readServed_contexts_none hx]
    | some x =>
      rw [readServed_contexts hx]
      by_cases hdc : d = c
      · subst hdc
        obtain ⟨x', hx', hy⟩ := PiecesWait.other_waits (b := (d, i, p)) (l := before)
          (PiecesWait.left (l' := rest) (by simpa using hw)) hbefore
        cases hx.symm.trans hx'
        have hnot : contextDone x ≠ true := fun h => nomatch contextDone_getElem? h hy
        have hreading : (x.pieces.modify i (fun y => { y with state := .reading }))[i]? =
            some { span := p, state := .reading } := by
          rw [List.getElem?_modify, hy]
          simp
        have hnot' : (x.pieces.modify i (fun y => { y with state := .reading })).all pieceDone ≠ true := fun h =>
          nomatch List.all_eq_true.1 h _ (List.mem_of_getElem? hreading)
        constructor
        · rintro ⟨z, hz, hz'⟩
          cases hz
          exact absurd hz' hnot
        · rintro ⟨z, hz, hz'⟩
          cases hz
          rw [if_pos rfl] at hz'
          exact absurd hz' hnot'
      · simp [hdc, contextDone]

/-- Settles O19. -/
theorem grantServesTheOldestWaitingPiece : Obligations.GrantServesTheOldestWaitingPiece := by
  intro time n before rest s hs hslot hcls hsplit hbefore hrest
  have hw : PiecesWait (atTime time s) (before ++ rest) := by
    have hwait := readCandidates_wait (atTime time s)
    rwa [show readCandidates (atTime time s) = before ++ rest from hsplit] at hwait
  obtain ⟨g, hg⟩ : ∃ g, g = readGranted n before rest (atTime time s) := ⟨_, rfl⟩
  have hgrant : grantTo n .read (atTime time s) = { g with mp := { g.mp with turn := .sweep } } := by
    rw [hg]
    exact grantTo_read (s := atTime time s) hsplit hbefore hrest
  have hexec : exec (.grant time) s = .next (settleSweep { g with mp := { g.mp with turn := .sweep } }) := by
    rw [exec_eventAct (c := .grant time) rfl hs, grantOne_granted (s := atTime time s) hslot hcls, hgrant]
  have hnu : g.nu = { s.nu with counters := { s.nu.counters with
      forwardedReads := countUp^[before.countP (fun b => covered s b.2.2)] s.nu.counters.forwardedReads,
      patternReads := countUp^[before.countP (fun b => !covered s b.2.2)] s.nu.counters.patternReads } } := by
    rw [hg, readGranted_only]
    exact resolvedAll_nu (s := atTime time s) hbefore
  have hrsw : (∀ k line, rest.head?.map (fun x => x.2.2.line) = some line → s.rsw.engine = .ready k line →
        g.rsw = { s.rsw with engine := .blocked k line }) ∧
      ((∀ k line, s.rsw.engine = .ready k line → rest.head?.map (fun x => x.2.2.line) ≠ some line) → g.rsw = s.rsw) := by
    rw [hg]
    cases rest with
    | nil => exact ⟨nofun, fun _ => by rw [readGranted, resolvedAll_only]; rfl⟩
    | cons b rest =>
      obtain ⟨d, i, p⟩ := b
      obtain ⟨hready, hother⟩ := readGranted_rsw_served n d i p before rest (atTime time s)
      refine ⟨fun k line hline hk => ?_, fun h => hother fun k hk => h k p.line hk rfl⟩
      cases hline
      exact hready k hk
  have hnp : (∀ u, s.rsw.engine ≠ .pacing u) → ∀ u, g.rsw.engine ≠ .pacing u := fun h u => by
    by_cases hr : ∃ k line, rest.head?.map (fun x => x.2.2.line) = some line ∧ s.rsw.engine = .ready k line
    · obtain ⟨k, line, hline, hk⟩ := hr
      rw [hrsw.1 k line hline hk]
      nofun
    · rw [hrsw.2 fun k line hk hline => hr ⟨k, line, hline, hk⟩]
      exact h u
  have hcounters := (settleSweep_posted { g with mp := { g.mp with turn := .sweep } }).counters
  have hforwarded := (congrArg Counters.forwardedReads hcounters).trans (congrArg (fun u => u.counters.forwardedReads) hnu)
  have hpattern := (congrArg Counters.patternReads hcounters).trans (congrArg (fun u => u.counters.patternReads) hnu)
  obtain ⟨more, hready, hnodup, hmore⟩ := readGranted_ready (slot := n) hw hbefore
  rw [← hg] at hready hmore
  refine ⟨_, more, hexec, fun c i p hhead => ?_, fun hnil => ?_, fun c hc => ?_, fun c x hx => ?_, ?_, hnodup, ?_,
    hforwarded, hpattern, fun hp => ?_, ?_⟩
  · cases rest with
    | nil => cases hhead
    | cons b rest =>
      cases hhead
      rw [(settleSweep_frame _).2.2.2.2.1, hg]
      exact congrArg (fun m : Mp => { m with turn := .sweep }) (readGranted_mp_served n c i p before rest (atTime time s))
  · subst hnil
    rw [(settleSweep_frame _).2.2.2.2.1, hg, readGranted, resolvedAll_only]
    rfl
  · rw [(settleSweep_frame _).2.2.1, hg]
    exact readGranted_contexts_none (s := atTime time s) hbefore hc
  · rw [(settleSweep_frame _).2.2.1, hg]
    exact readGranted_contexts hw hbefore hx
  · rw [(settleSweep_frame _).2.2.1]
    exact hready
  · rw [(settleSweep_frame _).2.2.1]
    exact hmore
  · obtain ⟨hsettled, hsettled'⟩ := settleSweep_rsw_of_not_pacing (s := { g with mp := { g.mp with turn := .sweep } }) (hnp hp)
    rw [hsettled]
    refine ⟨?_, hrsw.1, hrsw.2⟩
    rw [hforwarded, hpattern, hsettled', hnu]
  · rw [settleSweep_only, hg, readGranted_only]
    rfl

end Sys2Proof.Machine
end

section
/-! The Intake Queue and the take of its head: arrivals, heads outside ONLINE, refusals and SYNCs (R63, R64, R135 to R139, R145). -/

namespace Sys2Proof.Machine

/-! ## The queues -/

theorem judgeStarvation_eq (s : State) : judgeStarvation s = { s with starvation := (judgeStarvation s).starvation } := rfl

/-- The head of the queue, once the link's requests have joined, is the first request of the stream. -/
theorem acceptFromLink_head (s : State) :
    (acceptFromLink s).rqp.intake.head? = (s.rqp.intake ++ s.rqp.link).head? := by
  unfold acceptFromLink
  cases s.rqp.intake with
  | nil => cases s.rqp.link <;> rfl
  | cons q rest => rfl

theorem acceptFromLink_length {s : State} (h : s.rqp.intake.length ≤ 16) :
    (acceptFromLink s).rqp.intake.length = min 16 (s.rqp.intake.length + s.rqp.link.length) := by
  have hlen : (acceptFromLink s).rqp.intake.length = s.rqp.intake.length + min (16 - s.rqp.intake.length) s.rqp.link.length := by
    simp [acceptFromLink, Config.intakeCapacity]
  rw [hlen]
  omega

theorem acceptFromLink_eq (s : State) : acceptFromLink s = { s with
    rqp := { s.rqp with intake := (acceptFromLink s).rqp.intake, link := (acceptFromLink s).rqp.link } } := rfl

/-- The judgement of a new head rests on what it found. -/
theorem judgedLat_accepted (head : Option Request) (s : State) (intake link : List Request) :
    judgedLat head { s with rqp := { s.rqp with intake := intake, link := link } } = judgedLat head s :=
  judgedLat_congr head rfl rfl rfl rfl fun _ => rfl

/-- The head leaves: the requests behind it move up, and the new head is judged (R135, R136). -/
theorem leaveIntake_found {s : State} {q : Request} {rest : List Request} (h : s.rqp.intake ++ s.rqp.link = q :: rest)
    (hne : s.rqp.intake ≠ []) : (leaveIntake s).rqp.intake ++ (leaveIntake s).rqp.link = rest ∧
      (leaveIntake s).lat = judgedLat rest.head? s ∧
      leaveIntake s = { s with
        rqp := { s.rqp with intake := (leaveIntake s).rqp.intake, link := (leaveIntake s).rqp.link },
        lat := (leaveIntake s).lat } := by
  obtain ⟨x, tail, hx⟩ := List.exists_cons_of_ne_nil hne
  have hstream : tail ++ s.rqp.link = rest := by
    rw [hx] at h
    exact (List.cons.inj h).2
  obtain ⟨u, hu⟩ : ∃ u : State, u = { s with rqp := { s.rqp with intake := tail } } := ⟨_, rfl⟩
  have hleave : leaveIntake s = judgeHead (acceptFromLink u) := by rw [leaveIntake, hx, hu]; rfl
  have hustream : u.rqp.intake ++ u.rqp.link = rest := by rw [hu]; exact hstream
  refine ⟨?_, ?_, ?_⟩
  · rw [hleave, (judgeHead_frame _).1, acceptFromLink_stream, hustream]
  · rw [hleave, judgeHead_lat, acceptFromLink_head, hustream, acceptFromLink_eq, judgedLat_accepted, hu]
    exact judgedLat_congr _ rfl rfl rfl rfl fun _ => rfl
  · rw [hleave, judgeHead_only, acceptFromLink_eq, hu]

/-- The state in which a TAKE finds its head. -/
def headFound (time : Nat) (s : State) : State := acceptFromLink (atTime time s)

theorem headFound_eq (time : Nat) (s : State) : headFound time s = { s with
    rqp := { s.rqp with intake := (headFound time s).rqp.intake, link := (headFound time s).rqp.link },
    now := max s.now time } := rfl

theorem headFound_stream (time : Nat) (s : State) :
    (headFound time s).rqp.intake ++ (headFound time s).rqp.link = s.rqp.intake ++ s.rqp.link :=
  acceptFromLink_stream (atTime time s)

theorem headFound_head {s : State} {q : Request} {rest : List Request} (h : s.rqp.intake ++ s.rqp.link = q :: rest)
    (time : Nat) : (headFound time s).rqp.intake.head? = some q := by
  have hhead := acceptFromLink_head (atTime time s)
  exact hhead.trans (congrArg List.head? h)

theorem headFound_ne_nil {s : State} {q : Request} {rest : List Request} (h : s.rqp.intake ++ s.rqp.link = q :: rest)
    (time : Nat) : (headFound time s).rqp.intake ≠ [] := fun hnil => by
  have hhead := headFound_head h time
  rw [hnil] at hhead
  cases hhead

/-- A TAKE takes the first request of the stream. -/
theorem exec_take {s : State} (hs : s.held = false) {q : Request} {rest : List Request}
    (h : s.rqp.intake ++ s.rqp.link = q :: rest) (time : Nat) :
    exec (.take time) s = .next (judgeStarvation (takeHead q (headFound time s))) := by
  rw [exec_eventAct (c := .take time) rfl hs]
  obtain ⟨x, tail, hx⟩ := List.exists_cons_of_ne_nil (headFound_ne_nil h time)
  have hq := headFound_head h time
  rw [hx] at hq
  cases hq
  unfold takeAt
  change Host.Outcome.next (match (headFound time s).rqp.intake with
    | [] => headFound time s
    | q :: _ => judgeStarvation (takeHead q (headFound time s))) = _
  rw [hx]

theorem judge_headFound (time : Nat) (s : State) (q : Request) : judge (headFound time s) q = judge s q :=
  judge_congr q rfl rfl fun _ => rfl

/-! ## Arrivals (R135) -/

/-- Settles O4. -/
theorem arrivalJoinsTheIntakeQueue : Obligations.ArrivalJoinsTheIntakeQueue := by
  intro q s hs hlen
  have hexec : exec (.requestArrival q) s = .next (arrive q s) := exec_eventAct (c := .requestArrival q) rfl hs
  obtain ⟨a, ha⟩ : ∃ a, a = acceptFromLink { s with rqp := { s.rqp with link := s.rqp.link ++ [q] } } := ⟨_, rfl⟩
  have hastream : a.rqp.intake ++ a.rqp.link = s.rqp.intake ++ s.rqp.link ++ [q] := by
    rw [ha, acceptFromLink_stream]
    exact (List.append_assoc _ _ _).symm
  have halen : a.rqp.intake.length = min 16 (s.rqp.intake.length + s.rqp.link.length + 1) := by
    rw [ha, acceptFromLink_length (by exact hlen)]
    simp [Nat.add_assoc]
  have harrive : arrive q s = if s.rqp.intake.isEmpty then judgeStarvation (judgeHead a) else a := by rw [ha]; rfl
  have hlat : s.rqp.intake.isEmpty = true → (arrive q s).lat = judgedLat (s.rqp.link ++ [q]).head? s := fun h => by
    rw [harrive, if_pos h, judgeStarvation_lat, judgeHead_lat, ha, acceptFromLink_head, List.isEmpty_iff.1 h]
    exact judgedLat_congr _ rfl rfl rfl rfl fun _ => rfl
  have hrqp : (arrive q s).rqp = a.rqp := by
    rw [harrive]
    split <;> simp
  have hbehind : s.rqp.intake ≠ [] → arrive q s = a := fun h => by
    rw [harrive, if_neg (by simpa using h)]
  refine ⟨_, hexec, hrqp ▸ hastream, hrqp ▸ halen, ?_, ?_, ?_, fun h => ?_, fun h tail hnil hhead => ?_, fun hm => ?_⟩
  · rw [hrqp, ha]; rfl
  · rw [hrqp, ha]; rfl
  · rw [harrive]
    split
    · rw [judgeStarvation_eq, judgeHead_only, ha]; rfl
    · rw [ha]; rfl
  · rw [hbehind h, ha]; exact ⟨rfl, rfl⟩
  · rw [hlat (by simp [hnil]), hhead]
    rfl
  · by_cases h : s.rqp.intake.isEmpty = true
    · rw [hlat h]
      exact judgedLat_not_online hm _
    · rw [hbehind (by simpa using h), ha]
      rfl

/-! ## Heads outside ONLINE (R137) -/

/-- Settles O5. -/
theorem takeOutsideOnline : Obligations.TakeOutsideOnline := by
  intro time q rest s hs hq
  have hexec := exec_take hs hq time
  have hstream := (headFound_stream time s).trans hq
  refine ⟨fun hm => ⟨_, hexec, ?_⟩, fun hm => ⟨_, hexec, ?_⟩⟩
  · have hjudge : judge (headFound time s) q = .offline := by rw [judge_headFound, judge, hm]
    obtain ⟨u, hu⟩ : ∃ u, u = respond q.requester q.tag .offline [] (headFound time s) := ⟨_, rfl⟩
    have htake : takeHead q (headFound time s) = leaveIntake u := by simp only [takeHead, hjudge, hu]
    obtain ⟨hrest, hlat, hshape⟩ := leaveIntake_found (s := u) (q := q) (rest := rest) (by rw [hu]; exact hstream)
      (by rw [hu]; exact headFound_ne_nil hq time)
    have hlat' : (leaveIntake u).lat = s.lat := by
      rw [hlat, judgedLat_not_online (s := u) (by rw [hu]; change s.mc.mode ≠ .online; rw [hm]; nofun), hu]
      rfl
    rw [htake]
    refine ⟨hrest, ?_, ?_, ?_⟩
    · rw [judgeStarvation_rqp, hshape, hu]; rfl
    · rw [judgeStarvation_rqp, hshape, hu]; rfl
    · rw [judgeStarvation_eq, hshape, hlat', hu]; rfl
  · have hjudge : judge (headFound time s) q = .stays := by
      rw [judge_headFound, judge]
      obtain hm | hm := hm <;> rw [hm]
    have htake : takeHead q (headFound time s) = headFound time s := by simp only [takeHead, hjudge]
    rw [htake]
    exact ⟨hstream, rfl, rfl, rfl⟩

/-! ## Refused heads (R138, R139, R145) -/

theorem judge_illegal {s : State} {q : Request} {cause : RefusalCause} (hm : s.mc.mode = .online)
    (h : legality s q = some cause) : judge s q = .refused .protocolError cause := by
  rw [judge, hm]
  dsimp only
  rw [h]

theorem judge_out_of_range {s : State} {q : Request} {cause : RefusalCause} (hm : s.mc.mode = .online)
    (hlegal : legality s q = none) (h : range s q = some cause) : judge s q = .refused .rangeError cause := by
  rw [judge, hm]
  dsimp only
  rw [hlegal, h]

theorem regionOf_none {u : Rsw} {line : Nat} (h : ∀ k, regionHolds line (u.regions.get k) = false) : regionOf u line = none := by
  exact List.find?_eq_none.2 fun k _ => by simp [h k]

/-- A refused head leaves, and the request behind it is judged. -/
theorem takeHead_refused {s : State} {q : Request} {rest : List Request} {status : ResponseStatus} {cause : RefusalCause}
    {time : Nat} (hq : s.rqp.intake ++ s.rqp.link = q :: rest) (h : judge s q = .refused status cause) {t : State}
    (ht : t = judgeStarvation (takeHead q (headFound time s))) :
    t.nu = postToNu (.requestRefused q.requester q.tag status cause
        (if q.kind = .sync ∨ cause = .badKind then none else some q.address)) s.nu ∧
      t.rqp.intake ++ t.rqp.link = rest ∧ t.rqp.tags = s.rqp.tags ∧ t.rqp.wrt = s.rqp.wrt ∧
      t.lat = judgedLat rest.head? s ∧
      t = { s with
        rqp := t.rqp, lat := t.lat, starvation := t.starvation, nu := t.nu, now := max s.now time,
        out := { s.out with responses := s.out.responses ++
          [{ requester := q.requester, tag := q.tag, status := status, data := [] }] } } := by
  have htake : takeHead q (headFound time s) = leaveIntake (takeRefused q status cause (headFound time s)) := by
    simp only [takeHead, judge_headFound, h]
  obtain ⟨hrest, hlat, hshape⟩ := leaveIntake_found (s := takeRefused q status cause (headFound time s)) (q := q) (rest := rest)
    ((headFound_stream time s).trans hq) (headFound_ne_nil hq time)
  rw [htake] at ht
  rw [ht]
  refine ⟨?_, hrest, ?_, ?_, ?_, ?_⟩
  · rw [judgeStarvation_nu, hshape]
    exact takeRefused_nu q status cause (headFound time s)
  · rw [judgeStarvation_rqp, hshape]; rfl
  · rw [judgeStarvation_rqp, hshape]; rfl
  · rw [judgeStarvation_lat, hlat]
    exact judgedLat_congr _ rfl rfl rfl rfl fun _ => rfl
  · rw [judgeStarvation_eq, hshape]; rfl

/-- The refusals of O6 are those of the legality and the range step. -/
theorem judge_refused_of {s : State} {q : Request} {status : ResponseStatus} {cause : RefusalCause} (hm : s.mc.mode = .online)
    (h : (status = .protocolError ∧
        ((cause = .badKind ∧ q.kind = .unknown) ∨
         (cause = .badLength ∧ (q.kind = .read ∨ q.kind = .write) ∧ (q.length.val = 0 ∨ 64 < q.length.val)) ∨
         (cause = .duplicateTag ∧ (q.kind = .sync ∨ ((q.kind = .read ∨ q.kind = .write) ∧ 0 < q.length.val ∧
            q.length.val ≤ 64)) ∧ (q.requester, q.tag) ∈ s.rqp.tags))) ∨
     (status = .rangeError ∧ (q.kind = .read ∨ q.kind = .write) ∧ 0 < q.length.val ∧ q.length.val ≤ 64 ∧
        (q.requester, q.tag) ∉ s.rqp.tags ∧
        ((cause = .beyondSpace ∧ 2 ^ 40 < q.address.toNat + q.length.val) ∨
         (cause = .noRegion ∧ q.address.toNat + q.length.val ≤ 2 ^ 40 ∧
            ∃ p ∈ requestSpans q, ∀ k, regionHolds p.line (s.rsw.regions.get k) = false)))) :
    judge s q = .refused status cause := by
  obtain ⟨rfl, ⟨rfl, hk⟩ | ⟨rfl, hk, hlen⟩ | ⟨rfl, hk, hmem⟩⟩ | ⟨rfl, hk, hpos, hle, hmem, hcase⟩ := h
  · exact judge_illegal hm (by rw [legality, if_pos hk])
  · refine judge_illegal hm ?_
    have hne : q.kind ≠ .unknown := fun h => by simp [h] at hk
    rw [legality, if_neg hne, if_pos ⟨hk, hlen⟩]
  · refine judge_illegal hm ?_
    have hne : q.kind ≠ .unknown := fun h => by simp [h] at hk
    have hlen : ¬ ((q.kind = .read ∨ q.kind = .write) ∧ (q.length.val = 0 ∨ 64 < q.length.val)) := by
      rintro ⟨hrw, hlen⟩
      obtain hk | ⟨-, hpos, hle⟩ := hk
      · simp [hk] at hrw
      · omega
    rw [legality, if_neg hne, if_neg hlen, if_pos (by simpa using hmem)]
  · have hlegal : legality s q = none := by
      have hne : q.kind ≠ .unknown := fun h => by simp [h] at hk
      rw [legality, if_neg hne, if_neg (by omega), if_neg (by simpa using hmem)]
    have hsync : q.kind ≠ .sync := fun h => by simp [h] at hk
    refine judge_out_of_range hm hlegal ?_
    obtain ⟨rfl, hbeyond⟩ | ⟨rfl, hwithin, p, hp, hnone⟩ := hcase
    · rw [range, if_neg hsync, if_pos (show Config.spaceBytes < requestAddress q + q.length.val from hbeyond)]
    · have hall : ¬ ((requestSpans q).all (fun p => (regionOf s.rsw p.line).isSome) = true) := fun h => by
        have hp' := List.all_eq_true.1 h p hp
        rw [regionOf_none hnone] at hp'
        cases hp'
      rw [range, if_neg hsync, if_neg (show ¬ Config.spaceBytes < requestAddress q + q.length.val from Nat.not_lt.2 hwithin),
        if_neg hall]

end Sys2Proof.Machine
end

section
/-! A take does not look at the requests that wait behind its head (R136 to R142). -/

namespace Sys2Proof.Machine

/-! ## Other requests in the queues -/

/-- The state with other requests waiting. -/
def withQueues (intake link : List Request) (s : State) : State :=
  { s with rqp := { s.rqp with intake := intake, link := link } }

theorem foldl_withQueues {α : Type} {intake link : List Request} {f : State → α → State}
    (h : ∀ s a, f (withQueues intake link s) a = withQueues intake link (f s a)) (l : List α) (s : State) :
    l.foldl f (withQueues intake link s) = withQueues intake link (l.foldl f s) := by
  induction l generalizing s with
  | nil => rfl
  | cons a l ih => rw [List.foldl_cons, List.foldl_cons, h, ih]

section
variable (intake link : List Request) (s : State)

theorem judge_withQueues (q : Request) : judge (withQueues intake link s) q = judge s q :=
  judge_congr q rfl rfl fun _ => rfl

theorem closedFor_withQueues (q : Request) :
    closedFor q (withQueues intake link s) = withQueues intake link (closedFor q s) := by
  unfold closedFor
  split
  · have hlat := resourceCloses_lat_congr (s := s) (s' := withQueues intake link s) q rfl rfl
    rw [resourceCloses_only, hlat, resourceCloses_only q s]
    rfl
  · rfl

/-! ### READ -/

theorem finishPiece_withQueues (c : Fin 16) (i : Nat) (status : ReadStatus) (bytes : List Byte) :
    finishPiece c i status bytes (withQueues intake link s) = withQueues intake link (finishPiece c i status bytes s) := by
  unfold finishPiece
  change (match s.rdp.contexts.get c with | some x => _ | none => _) = _
  cases s.rdp.contexts.get c <;> rfl

theorem resolvePiece_withQueues (c : Fin 16) (i : Nat) (p : Span) :
    (resolvePiece c i p (withQueues intake link s)).1 = withQueues intake link (resolvePiece c i p s).1 := by
  unfold resolvePiece
  change (match resolve s p with | .forward bytes => _ | .pattern bytes => _ | .memory => _ : State × Bool).1 = _
  cases resolve s p with
  | forward bytes => exact finishPiece_withQueues intake link (countOne .forwardedReads s) c i .ok bytes
  | pattern bytes => exact finishPiece_withQueues intake link (countOne .patternReads s) c i .ok bytes
  | memory => rfl

theorem resolveAll_withQueues (c : Fin 16) (i : Nat) (l : List Span) :
    resolveAll c i l (withQueues intake link s) = withQueues intake link (resolveAll c i l s) := by
  induction l generalizing i s with
  | nil => rfl
  | cons p rest ih => rw [resolveAll, resolveAll, resolvePiece_withQueues, ih]

/-- The state of a READ's take before its pieces are resolved. -/
def readOpened (q : Request) (c : Fin 16) (s : State) : State :=
  { holdTag q.requester q.tag s with
    rdp := { s.rdp with contexts := s.rdp.contexts.set c (some (openedContext s.rdp q)) } }

theorem takeRead_eq (q : Request) (c : Fin 16) : takeRead q c s = resolveAll c 0 (requestSpans q) (readOpened q c s) := rfl

theorem takeRead_withQueues (q : Request) (c : Fin 16) :
    takeRead q c (withQueues intake link s) = withQueues intake link (takeRead q c s) :=
  resolveAll_withQueues intake link (readOpened q c s) c 0 (requestSpans q)

/-! ### WRITE -/

theorem closeIfFull_withQueues (i : Fin 32) (e : Entry) :
    closeIfFull i e (withQueues intake link s) = withQueues intake link (closeIfFull i e s) := by
  unfold closeIfFull
  split <;> rfl

theorem placePiece_withQueues (q : Request) (w : Option (Fin 16)) (p : Span) :
    placePiece q w (withQueues intake link s) p = withQueues intake link (placePiece q w s p) := by
  unfold placePiece
  change (match mergeTarget s.lat q.aoc p with | some i => _ | none => _) = _
  cases mergeTarget s.lat q.aoc p with
  | some i =>
    dsimp only [mergePiece]
    change (match s.lat.entries.get i with | some e => _ | none => _) = _
    cases s.lat.entries.get i with
    | some e => exact closeIfFull_withQueues intake link (putEntry i (mergedEntry s q w p e) (countOne .merges s)) i _
    | none => rfl
  | none =>
    dsimp only [openPiece]
    change (match lowestFreeEntry s.lat with | some i => _ | none => _) = _
    cases lowestFreeEntry s.lat with
    | some i => exact closeIfFull_withQueues intake link (putEntry i (openedEntry s q w p) s) i _
    | none => rfl

theorem releaseOwnLines_withQueues (q : Request) :
    releaseOwnLines q (withQueues intake link s) = withQueues intake link (releaseOwnLines q s) :=
  foldl_withQueues (fun s p => by
    change (match gatheringOf s.lat p.line with | some i => _ | none => _) = _
    cases gatheringOf s.lat p.line <;> rfl) _ s

theorem openRelease_withQueues (q : Request) (w : Option (Fin 16)) (b : Barrier) (p : Span) :
    openRelease q w b (withQueues intake link s) p = withQueues intake link (openRelease q w b s p) := by
  unfold openRelease
  change (match lowestFreeEntry s.lat with | some i => _ | none => _) = _
  cases lowestFreeEntry s.lat <;> rfl

theorem releaseTake_withQueues (q : Request) (w : Option (Fin 16)) (k : Fin 8) (r : ReleaseRule) :
    releaseTake q w k r (withQueues intake link s) = withQueues intake link (releaseTake q w k r s) := by
  have hclose : closeWhere .release (inScope r.scope q.requester) (releaseOwnLines q (withQueues intake link s)) =
      withQueues intake link (closeWhere .release (inScope r.scope q.requester) (releaseOwnLines q s)) := by
    rw [releaseOwnLines_withQueues]; rfl
  unfold releaseTake
  dsimp only
  rw [hclose, foldl_withQueues (openRelease_withQueues intake link · q w _ ·)]
  split <;> rfl

theorem placeWrite_withQueues (q : Request) (w : Option (Fin 16)) :
    placeWrite q w (withQueues intake link s) = withQueues intake link (placeWrite q w s) := by
  unfold placeWrite
  change (match ruleFor s.ord q with | some k => _ | none => _) = _
  cases ruleFor s.ord q with
  | some k =>
    change (match s.ord.rules.get k with | some r => _ | none => _) = (withQueues intake link (match s.ord.rules.get k with
      | some r => _ | none => _))
    cases s.ord.rules.get k with
    | some r => exact releaseTake_withQueues intake link s q w k r
    | none => rfl
  | none => exact foldl_withQueues (placePiece_withQueues intake link · q w ·) _ s

/-! ### SYNC -/

theorem takeSync_withQueues (q : Request) :
    takeSync q (withQueues intake link s) = withQueues intake link (takeSync q s) := by
  unfold takeSync
  change (match s.ord.sync.get q.requester with | some x => _ | none => _) = _
  cases s.ord.sync.get q.requester <;> rfl

/-- How a head is served does not depend on the requests behind it. -/
theorem takeServed_withQueues (q : Request) :
    takeServed q (withQueues intake link s) = (takeServed q s).map (withQueues intake link) := by
  unfold takeServed
  cases q.kind with
  | read =>
    change (match lowestFreeContext s.rdp with | some c => _ | none => _) = _
    cases lowestFreeContext s.rdp with
    | some c => exact congrArg some (takeRead_withQueues intake link s q c)
    | none => rfl
  | write =>
    dsimp only
    have hneeded : freeEntries (withQueues intake link s).lat < entriesNeeded (withQueues intake link s) q ↔
        freeEntries s.lat < entriesNeeded s q := Iff.rfl
    simp only [hneeded]
    split
    · rfl
    · split
      · change (match lowestFreeWrt s.rqp with | some w => _ | none => _) = _
        cases lowestFreeWrt s.rqp with
        | some w => exact congrArg some (placeWrite_withQueues intake link (holdTag q.requester q.tag (openWrt q w s)) q (some w))
        | none => rfl
      · exact congrArg (fun u => some (respond q.requester q.tag .ok [] u)) (placeWrite_withQueues intake link s q none)
  | sync => exact congrArg some (takeSync_withQueues intake link s q)
  | unknown => rfl

end

/-! ## A head and the same request alone -/

/-- The TAKE of a head, `t`, is that of the same request alone, `u`: when it stays the requests behind it stay, and when it leaves
the next is judged. -/
structure TakenAlike (q : Request) (rest : List Request) (t u : State) : Prop where
  alike : t = { u with
    rqp := { u.rqp with intake := t.rqp.intake, link := t.rqp.link }, lat := t.lat, starvation := t.starvation }
  stays : u.rqp.intake = [q] → t.rqp.intake ++ t.rqp.link = q :: rest ∧ t.lat = u.lat
  leaves : u.rqp.intake = [] → t.rqp.intake ++ t.rqp.link = rest ∧ t.lat = judgedLat rest.head? u
  either : u.rqp.intake = [q] ∨ u.rqp.intake = []

/-- A head that stays. -/
theorem takenAlike_stays {q : Request} {rest : List Request} {x : State} (h : x.rqp.intake ++ x.rqp.link = q :: rest) :
    TakenAlike q rest (judgeStarvation x) (judgeStarvation (withQueues [q] [] x)) where
  alike := rfl
  stays _ := ⟨h, rfl⟩
  leaves h := nomatch h
  either := .inl rfl

/-- A head that leaves. -/
theorem takenAlike_leaves {q : Request} {rest : List Request} {y : State} (h : y.rqp.intake ++ y.rqp.link = q :: rest)
    (hne : y.rqp.intake ≠ []) :
    TakenAlike q rest (judgeStarvation (leaveIntake y)) (judgeStarvation (leaveIntake (withQueues [q] [] y))) := by
  obtain ⟨hrest, hlat, hshape⟩ := leaveIntake_found h hne
  obtain ⟨hnil, hlat', hshape'⟩ := leaveIntake_found (s := withQueues [q] [] y) (q := q) (rest := []) rfl (by nofun)
  obtain ⟨hintake, hlink⟩ := List.append_eq_nil_iff.1 hnil
  refine ⟨?_, fun hq => ?_, fun _ => ⟨hrest, ?_⟩, .inr hintake⟩
  · rw [judgeStarvation_eq, judgeStarvation_eq (leaveIntake (withQueues [q] [] y)), hshape, hshape']
    rfl
  · exact nomatch hq.symm.trans hintake
  · rw [judgeStarvation_lat, hlat]
    refine (judgedLat_congr _ ?_ ?_ ?_ ?_ fun _ => ?_).symm
    · exact hlat'
    all_goals
      rw [judgeStarvation_eq, hshape']
      rfl

theorem leaveIntake_length {s : State} {q : Request} {rest : List Request} (h : s.rqp.intake ++ s.rqp.link = q :: rest)
    (hne : s.rqp.intake ≠ []) (hlen : s.rqp.intake.length ≤ 16) :
    (leaveIntake s).rqp.intake.length = min 16 rest.length := by
  obtain ⟨x, tail, hx⟩ := List.exists_cons_of_ne_nil hne
  have hstream : tail ++ s.rqp.link = rest := by
    rw [hx] at h
    exact (List.cons.inj h).2
  have htail : tail.length ≤ 16 := by rw [hx, List.length_cons] at hlen; omega
  rw [leaveIntake, (judgeHead_frame _).1, acceptFromLink_length (by rw [hx]; exact htail), ← hstream, hx, List.length_append]
  rfl

theorem takeHead_passes {s : State} {q : Request} (h : judge s q = .passes) : takeHead q s =
    match takeServed q (closedFor q s) with
    | some t => leaveIntake t
    | none => closedFor q s := by
  unfold takeHead
  rw [h]
  rfl

/-- A head stays or leaves, with what stands behind it as without. -/
theorem takeHead_withQueues (q : Request) (intake link : List Request) (s : State) :
    ∃ x : State, x.rqp.intake = s.rqp.intake ∧ x.rqp.link = s.rqp.link ∧
      ((takeHead q s = x ∧ takeHead q (withQueues intake link s) = withQueues intake link x) ∨
       (takeHead q s = leaveIntake x ∧ takeHead q (withQueues intake link s) = leaveIntake (withQueues intake link x))) := by
  have hjudge := judge_withQueues intake link s q
  cases h : judge s q with
  | stays =>
    rw [h] at hjudge
    exact ⟨s, rfl, rfl, .inl ⟨by rw [takeHead, h], by rw [takeHead, hjudge]⟩⟩
  | offline =>
    rw [h] at hjudge
    exact ⟨respond q.requester q.tag .offline [] s, rfl, rfl, .inr ⟨by rw [takeHead, h], by rw [takeHead, hjudge]; rfl⟩⟩
  | refused status cause =>
    rw [h] at hjudge
    exact ⟨takeRefused q status cause s, rfl, rfl, .inr ⟨by rw [takeHead, h], by rw [takeHead, hjudge]; rfl⟩⟩
  | passes =>
    rw [h] at hjudge
    rw [takeHead_passes h, takeHead_passes hjudge, closedFor_withQueues, takeServed_withQueues]
    cases hserved : takeServed q (closedFor q s) with
    | none => exact ⟨closedFor q s, by simp, by simp, .inl ⟨rfl, rfl⟩⟩
    | some t =>
      obtain ⟨hintake, hlink⟩ := takeServed_queues hserved
      exact ⟨t, by simpa using hintake, by simpa using hlink, .inr ⟨rfl, rfl⟩⟩

/-- Settles O6. -/
theorem refusedHeadIsAnsweredAndReported : Obligations.RefusedHeadIsAnsweredAndReported := by
  refine ⟨fun time q rest status cause s hs hm hq hcase => ⟨_, exec_take hs hq time,
    takeHead_refused hq (judge_refused_of hm hcase) rfl⟩, fun time q rest s hs hq => ?_⟩
  have hstream := (headFound_stream time s).trans hq
  have hne := headFound_ne_nil hq time
  have hexec := exec_take hs hq time
  have hexec' := exec_take (s := { s with rqp := { s.rqp with intake := [q], link := [] } }) hs (q := q) (rest := []) rfl time
  have hfound : headFound time { s with rqp := { s.rqp with intake := [q], link := [] } } =
      withQueues [q] [] (headFound time s) := rfl
  rw [hfound] at hexec'
  obtain ⟨x, hintake, hlink, hcase⟩ := takeHead_withQueues q [q] [] (headFound time s)
  have hx : x.rqp.intake ++ x.rqp.link = q :: rest := by rw [hintake, hlink]; exact hstream
  have hxne : x.rqp.intake ≠ [] := by rw [hintake]; exact hne
  have hxlen : s.rqp.intake.length ≤ 16 → x.rqp.intake.length ≤ 16 := fun hlen => by
    rw [hintake]
    exact (acceptFromLink_length (s := atTime time s) hlen).trans_le (Nat.min_le_left _ _)
  obtain ⟨htake, htake'⟩ | ⟨htake, htake'⟩ := hcase
  · rw [htake] at hexec
    rw [htake'] at hexec'
    obtain ⟨halike, hstays, -, heither⟩ := takenAlike_stays hx
    exact ⟨_, _, hexec, hexec', halike, hstays, nofun, heither⟩
  · rw [htake] at hexec
    rw [htake'] at hexec'
    obtain ⟨halike, hstays, hleaves, heither⟩ := takenAlike_leaves hx hxne
    exact ⟨_, _, hexec, hexec', halike, hstays, fun hnil => ⟨(hleaves hnil).1, (hleaves hnil).2,
      fun hlen => leaveIntake_length hx hxne (hxlen hlen)⟩, heither⟩

end Sys2Proof.Machine
end

section
/-! The take of a request that stands alone (R142): SYNC (R63, R64) and READ (R71 to R76). -/

namespace Sys2Proof.Machine

/-! ## A request alone -/

/-- The state in which a TAKE finds a request that stands alone. -/
def headAlone (time : Nat) (q : Request) (s : State) : State :=
  { s with rqp := { s.rqp with intake := [q], link := [] }, now := max s.now time }

theorem headFound_alone {s : State} {q : Request} (h : s.rqp.intake ++ s.rqp.link = [q]) (time : Nat) :
    headFound time s = headAlone time q s := by
  have hstream := (headFound_stream time s).trans h
  have hne := headFound_ne_nil h time
  obtain ⟨x, tail, hx⟩ := List.exists_cons_of_ne_nil hne
  rw [hx] at hstream
  obtain ⟨rfl, hnil⟩ := List.cons.inj hstream
  obtain ⟨rfl, hlink⟩ := List.append_eq_nil_iff.1 hnil
  rw [headFound_eq, hx, hlink]
  rfl

theorem leaveIntake_alone {u : State} {q : Request} (hintake : u.rqp.intake = [q]) (hlink : u.rqp.link = []) :
    leaveIntake u = withQueues [] [] u := by
  obtain ⟨hnil, hlat, hshape⟩ := leaveIntake_found (s := u) (q := q) (rest := []) (by rw [hintake, hlink]; rfl)
    (by rw [hintake]; nofun)
  obtain ⟨hintake', hlink'⟩ := List.append_eq_nil_iff.1 hnil
  rw [hshape, hintake', hlink', hlat]
  rfl

/-- A request that is served leaves, with nothing behind it. -/
theorem exec_take_served {s u : State} {q : Request} {time : Nat} (hs : s.held = false)
    (hq : s.rqp.intake ++ s.rqp.link = [q]) (hpass : judge s q = .passes)
    (hserved : takeServed q (closedFor q (headAlone time q s)) = some u) :
    exec (.take time) s = .next (judgeStarvation (withQueues [] [] u)) := by
  obtain ⟨hintake, hlink⟩ := takeServed_queues hserved
  have hjudge : judge (headAlone time q s) q = .passes := (judge_congr q rfl rfl fun _ => rfl).trans hpass
  rw [exec_take hs hq, headFound_alone hq, takeHead_passes hjudge, hserved]
  exact congrArg (fun v => Host.Outcome.next (judgeStarvation v))
    (leaveIntake_alone (q := q) (by simpa [headAlone] using hintake) (by simpa [headAlone] using hlink))

theorem closedFor_not_write {q : Request} (h : q.kind ≠ .write) (s : State) : closedFor q s = s := if_neg h

/-! ## SYNC -/

theorem takeServed_sync {q : Request} (h : q.kind = .sync) (s : State) : takeServed q s = some (takeSync q s) := by
  rw [takeServed, h]

/-- Closes leave what an entry satisfies by its contributors. -/
theorem entryIs_contributors_closed {p : Entry → Bool} {before after : Lat} (h : ClosedInOrder p before after) (r : Fin 16)
    (j : Fin 32) : entryIs (fun e => e.contributors.has r) (after.entries.get j) =
      entryIs (fun e => e.contributors.has r) (before.entries.get j) := by
  by_cases hj : entryIs (fun e => isGathering e && p e) (before.entries.get j) = true
  · obtain ⟨e, he, hp⟩ := entryIs_iff.1 hj
    obtain ⟨hg, hp⟩ := Bool.and_eq_true_iff.1 hp
    obtain ⟨n, hn, -⟩ := h.closed j e he ((isGathering_iff e).1 hg) hp
    rw [hn, he]
    rfl
  · rw [h.kept j (by simpa using hj)]

/-- Settles O13. -/
theorem syncWaitsForItsRequestersEntries : Obligations.SyncWaitsForItsRequestersEntries := by
  intro time q s hs hq hk hpass
  have hexec := exec_take_served (time := time) hs hq hpass
    (by rw [closedFor_not_write (by rw [hk]; nofun)]; exact takeServed_sync hk _)
  refine ⟨fun hidle => ?_, fun hbusy => ?_⟩
  · obtain ⟨c, hc⟩ : ∃ c, c = closeWhere .sync (fun e => e.contributors.has q.requester)
      (holdTag q.requester q.tag (headAlone time q s)) := ⟨_, rfl⟩
    have hclosed : ClosedInOrder (fun e => e.contributors.has q.requester) s.lat c.lat := by
      rw [hc]
      exact closeWhere_closed (by nofun) _ (holdTag q.requester q.tag (headAlone time q s))
    have hmember := entryIs_contributors_closed hclosed q.requester
    obtain ⟨u, hu⟩ : ∃ u, u = takeSync q (headAlone time q s) := ⟨_, rfl⟩
    have htake : u = { c with ord := { c.ord with
        sync := c.ord.sync.set q.requester (some
          { tag := q.tag, waitSet := entrySet c.lat (fun e => e.contributors.has q.requester) }),
        syncReady := if (entrySet c.lat (fun e => e.contributors.has q.requester)).isEmpty then
          c.ord.syncReady ++ [q.requester] else c.ord.syncReady } } := by
      rw [hu, takeSync]
      change (match s.ord.sync.get q.requester with | some _ => _ | none => _) = _
      rw [hidle, hc]
    rw [← hu] at hexec
    refine ⟨_, { tag := q.tag, waitSet := entrySet c.lat (fun e => e.contributors.has q.requester) }, hexec, ?_, rfl,
      fun j => ?_, fun j e he hg => ?_, ?_, ?_, ?_, rfl, ?_⟩
    · rw [htake, hc]; rfl
    · rw [has_entrySet, hmember]
    · have he' : c.lat.entries.get j = some e := by rw [htake] at he; exact he
      by_cases hj : entryIs (fun e => isGathering e && e.contributors.has q.requester) (s.lat.entries.get j) = true
      · obtain ⟨x, hx, hp⟩ := entryIs_iff.1 hj
        obtain ⟨hgx, hp⟩ := Bool.and_eq_true_iff.1 hp
        obtain ⟨n, hn, -⟩ := hclosed.closed j x hx ((isGathering_iff x).1 hgx) hp
        cases he'.symm.trans hn
        cases hg
      · have hkept := hclosed.kept j (by simpa using hj)
        rw [he'] at hkept
        refine ⟨?_, hkept.symm⟩
        rw [← hkept] at hj
        simpa [entryIs, (isGathering_iff e).2 hg] using hj
    · rw [htake]; exact hclosed
    · rw [htake, hc]; rfl
    · rw [htake, hc]; rfl
    · rw [htake, hc]; rfl
  · obtain ⟨x, hx⟩ := Option.isSome_iff_exists.1 hbusy
    have htake : takeSync q (headAlone time q s) = respond q.requester q.tag .busy [] (headAlone time q s) := by
      rw [takeSync]
      change (match s.ord.sync.get q.requester with | some _ => _ | none => _) = _
      rw [hx]
    rw [htake] at hexec
    exact ⟨_, hexec, rfl, rfl, rfl, rfl⟩

end Sys2Proof.Machine
end

section
/-! The take of a READ (R71 to R76). -/

namespace Sys2Proof.Machine

/-! ## The pieces of a request (R140) -/

/-- Pieces that follow one another from a position on, each within its line. -/
def SpansFrom : Nat → List Span → Prop
  | _, [] => True
  | pos, p :: rest => p.pos = pos ∧ p.first + p.count ≤ 64 ∧ SpansFrom (pos + p.count) rest

/-- The bytes of a list of pieces. -/
def spansCount (l : List Span) : Nat := (l.map Span.count).sum

theorem requestSpans_from {q : Request} (hle : q.length.val ≤ 64) :
    SpansFrom 0 (requestSpans q) ∧ spansCount (requestSpans q) = q.length.val ∧ requestSpans q ≠ [] := by
  have hmod : requestAddress q % Config.lineBytes < 64 := Nat.mod_lt _ (by decide)
  unfold requestSpans
  dsimp only
  split
  · rename_i h
    exact ⟨⟨rfl, h, trivial⟩, by simp [spansCount], by nofun⟩
  · rename_i h
    have hline : Config.lineBytes = 64 := rfl
    rw [hline] at h hmod ⊢
    refine ⟨⟨rfl, ?_, ?_, ?_, trivial⟩, ?_, by nofun⟩
    · dsimp only; omega
    · dsimp only; omega
    · dsimp only; omega
    · simp only [spansCount, List.map_cons, List.map_nil, List.sum_cons, List.sum_nil]
      omega

theorem judge_passes_length {s : State} {q : Request} (h : judge s q = .passes) (hk : q.kind = .read ∨ q.kind = .write) :
    0 < q.length.val ∧ q.length.val ≤ 64 := by
  by_contra hlen
  unfold judge at h
  split at h
  iterate 3 · cases h
  rw [legality, if_neg (fun hu => by simp [hu] at hk), if_pos ⟨hk, by omega⟩] at h
  cases h

theorem countP_range_interval (a c n : Nat) :
    (List.range n).countP (fun k => decide (a ≤ k ∧ k < a + c)) = min c (n - a) := by
  induction n with
  | zero => simp
  | succ n ih =>
    rw [List.range_succ, List.countP_append, ih, List.countP_singleton]
    split
    · rename_i h
      have := of_decide_eq_true h
      omega
    · rename_i h
      rw [decide_eq_true_eq] at h
      omega

theorem length_spanOffsets {p : Span} (h : p.first + p.count ≤ 64) : (spanOffsets p).length = p.count := by
  have hmap : (List.finRange 64).map Fin.val = List.range 64 := List.map_coe_finRange_eq_range
  have hcount : (spanOffsets p).length = (List.range 64).countP (fun k => decide (p.first ≤ k ∧ k < p.first + p.count)) := by
    rw [← hmap, List.countP_map, spanOffsets, ← List.countP_eq_length_filter]
    rfl
  rw [hcount, countP_range_interval]
  omega

theorem length_readBytes {s : State} {p : Span} (h : p.first + p.count ≤ 64) : (readBytes s p).length = p.count := by
  rw [readBytes, List.length_map, length_spanOffsets h]

/-! ## The assembly buffer -/

/-- A buffer whose bytes at a place are replaced by as many others. -/
theorem writeBuffer_append {buffer middle rest : List (Option Byte)} {bytes : List Byte} (h : middle.length = bytes.length) :
    writeBuffer (buffer ++ middle ++ rest) buffer.length bytes = buffer ++ bytes.map some ++ rest := by
  unfold writeBuffer
  have htake : (buffer ++ middle ++ rest).take buffer.length = buffer := by simp
  have hdrop : (buffer ++ middle ++ rest).drop (buffer.length + bytes.length) = rest := by
    rw [← h, ← List.length_append, List.drop_left]
  rw [htake, hdrop]

/-- The bytes of some of the pieces that follow one another, written into an empty buffer. -/
theorem foldl_writeBuffer {resolved : Span → Bool} {bytes : Span → List Byte} {l : List Span} {buffer : List (Option Byte)}
    (h : SpansFrom buffer.length l) (hbytes : ∀ p ∈ l, (bytes p).length = p.count) :
    (l.filter resolved).foldl (fun b p => writeBuffer b p.pos (bytes p)) (buffer ++ List.replicate (spansCount l) none) =
      buffer ++ l.flatMap (fun p => if resolved p then (bytes p).map some else List.replicate p.count none) := by
  induction l generalizing buffer with
  | nil => simp [spansCount]
  | cons p rest ih =>
    obtain ⟨hpos, -, hrest⟩ := h
    have hp := hbytes p (by simp)
    have hsplit : List.replicate (spansCount (p :: rest)) (none : Option Byte) =
        List.replicate p.count none ++ List.replicate (spansCount rest) none := by
      rw [List.replicate_append_replicate]; rfl
    rw [hsplit, ← List.append_assoc, List.flatMap_cons]
    cases hr : resolved p with
    | true =>
      rw [List.filter_cons_of_pos hr, List.foldl_cons, hpos, writeBuffer_append (by simp [hp]),
        ih (buffer := buffer ++ (bytes p).map some) (by simpa [hp] using hrest)
          (fun x hx => hbytes x (List.mem_cons_of_mem _ hx))]
      simp
    | false =>
      rw [List.filter_cons_of_neg (by simp [hr]),
        ih (buffer := buffer ++ List.replicate p.count none) (by simpa using hrest)
          (fun x hx => hbytes x (List.mem_cons_of_mem _ hx))]
      simp

/-! ## The pieces of a new context -/

/-- Whether a piece needs no memory. -/
def needsNoMemory (s : State) (p : Span) : Bool := covered s p || (uninitialisedPattern s.rsw p.line).isSome

theorem needsNoMemory_iff (s : State) (p : Span) : needsNoMemory s p = true ↔ resolve s p ≠ .memory := by
  rw [Ne, resolve_memory_iff, not_and_or, needsNoMemory, Bool.or_eq_true, Option.isSome_iff_ne_none, Bool.not_eq_false]

/-- The pieces of context `c`, with their indices from `i` on. -/
def indexedPieces (c : Fin 16) (i : Nat) (l : List Span) : List (Fin 16 × Nat × Span) :=
  (l.zipIdx i).map (fun pi => (c, pi.2, pi.1))

theorem resolveAll_eq (c : Fin 16) (i : Nat) (l : List Span) (s : State) :
    resolveAll c i l s = resolvedAll (indexedPieces c i l) s := by
  induction l generalizing i s with
  | nil => rfl
  | cons p rest ih => rw [resolveAll, ih]; rfl

/-- A piece that needs memory is passed over. -/
theorem resolvedAll_filter (l : List (Fin 16 × Nat × Span)) (s : State) :
    resolvedAll l s = resolvedAll (l.filter (fun b => needsNoMemory s b.2.2)) s := by
  induction l using List.reverseRecOn with
  | nil => rfl
  | append_singleton l b ih =>
    rw [resolvedAll_concat, ih, List.filter_append]
    cases hb : needsNoMemory s b.2.2 with
    | true =>
      have hlast : [b].filter (fun b => needsNoMemory s b.2.2) = [b] := by simp [hb]
      rw [hlast, resolvedAll_concat]
    | false =>
      have hmem : resolve (resolvedAll (l.filter (fun b => needsNoMemory s b.2.2)) s) b.2.2 = .memory := by
        rw [(resolvedAll_same _ s b.2.2).1]
        by_contra h
        exact nomatch hb.symm.trans ((needsNoMemory_iff s b.2.2).2 h)
      have hlast : [b].filter (fun b => needsNoMemory s b.2.2) = [] := by simp [hb]
      rw [hlast, List.append_nil, resolvePiece_unresolved hmem]

theorem mem_indexedPieces {c : Fin 16} {l : List Span} {b : Fin 16 × Nat × Span} :
    b ∈ indexedPieces c 0 l ↔ b.1 = c ∧ l[b.2.1]? = some b.2.2 := by
  unfold indexedPieces
  rw [List.mem_map]
  constructor
  · rintro ⟨⟨p, i⟩, hmem, rfl⟩
    exact ⟨rfl, List.mem_zipIdx_iff_getElem?.1 hmem⟩
  · rintro ⟨hc, hget⟩
    exact ⟨(b.2.2, b.2.1), List.mem_zipIdx_iff_getElem?.2 hget, by rw [← hc]⟩

theorem nodup_indexedPieces (c : Fin 16) (l : List Span) : ((indexedPieces c 0 l).map (fun b => (b.1, b.2.1))).Nodup := by
  have hindices : (l.zipIdx.map Prod.snd).Nodup := by
    rw [List.zipIdx_map_snd]
    exact List.nodup_range'
  have hpairs := hindices.map (f := fun i => (c, i)) fun _ _ h => congrArg Prod.snd h
  rw [List.map_map] at hpairs
  rw [indexedPieces, List.map_map]
  exact hpairs

/-- The pieces of a new context that need no memory. -/
def resolvedPieces (s : State) (c : Fin 16) (l : List Span) : List (Fin 16 × Nat × Span) :=
  (indexedPieces c 0 l).filter (fun b => needsNoMemory s b.2.2)

theorem resolvedPieces_resolved {s : State} {c : Fin 16} {l : List Span} :
    ∀ b ∈ resolvedPieces s c l, resolve s b.2.2 ≠ .memory := fun b hb =>
  (needsNoMemory_iff s b.2.2).1 (List.mem_filter.1 hb).2

theorem resolvedPieces_context {s : State} {c : Fin 16} {l : List Span} :
    (resolvedPieces s c l).filter (fun b => b.1 == c) = resolvedPieces s c l :=
  List.filter_eq_self.2 fun b hb => by
    rw [(mem_indexedPieces.1 (List.mem_filter.1 hb).1).1]
    exact beq_self_eq_true c

theorem resolvedPieces_spans (s : State) (c : Fin 16) (l : List Span) :
    (resolvedPieces s c l).map (fun b => b.2.2) = l.filter (needsNoMemory s) := by
  have hspans : (indexedPieces c 0 l).map (fun b => b.2.2) = l := by
    rw [indexedPieces, List.map_map]
    exact List.zipIdx_map_fst 0 l
  conv_rhs => rw [← hspans]
  rw [List.filter_map]
  rfl

/-- A context whose pieces are all WAITING. -/
theorem resolvedPieces_wait {s : State} {c : Fin 16} {x : Context} {l : List Span} (hx : s.rdp.contexts.get c = some x)
    (hpieces : x.pieces = l.map (fun p => { span := p, state := .waiting })) : PiecesWait s (resolvedPieces s c l) where
  nodup := (List.filter_sublist.map _).nodup (nodup_indexedPieces c l)
  waiting b hb := by
    obtain ⟨hc, hget⟩ := mem_indexedPieces.1 (List.mem_filter.1 hb).1
    refine ⟨x, hc ▸ hx, ?_⟩
    rw [hpieces, List.getElem?_map, hget]
    rfl

/-- The pieces of a new context after its take: those that need no memory are DONE. -/
theorem piecesDone_resolved {s : State} {c : Fin 16} {x : Context} {l : List Span} (hx : s.rdp.contexts.get c = some x)
    (hpieces : x.pieces = l.map (fun p => { span := p, state := .waiting })) :
    piecesDone ((resolvedPieces s c l).map (fun b => b.2.1)) x.pieces =
      l.map (fun p => { span := p, state := if needsNoMemory s p then .done .ok else .waiting }) := by
  refine List.ext_getElem? fun j => ?_
  rw [getElem?_piecesDone, hpieces, List.getElem?_map, List.getElem?_map]
  cases hj : l[j]? with
  | none => rfl
  | some p =>
    have hmem := mem_indices_iff (resolvedPieces_wait hx hpieces) hx (j := j) (y := { span := p, state := .waiting })
      (by rw [hpieces, List.getElem?_map, hj]; rfl)
    rw [resolvedPieces_context] at hmem
    have hmem' : (c, j, p) ∈ resolvedPieces s c l ↔ needsNoMemory s p = true := by
      rw [resolvedPieces, List.mem_filter, mem_indexedPieces]
      exact ⟨fun h => h.2, fun h => ⟨⟨rfl, hj⟩, h⟩⟩
    simp only [Option.map_some, hmem, hmem']
    split <;> rfl

theorem countP_resolvedPieces {s : State} (c : Fin 16) (l : List Span) {p : Span → Bool}
    (h : ∀ x, p x = true → needsNoMemory s x = true) : (resolvedPieces s c l).countP (fun b => p b.2.2) = l.countP p := by
  have hmap : (resolvedPieces s c l).countP (fun b => p b.2.2) = ((resolvedPieces s c l).map (fun b => b.2.2)).countP p := by
    rw [List.countP_map]; rfl
  rw [hmap, resolvedPieces_spans, List.countP_filter]
  exact List.countP_congr fun x _ => by simpa using h x

/-- The byte string of a piece in a new context: its bytes where it needs no memory, else no byte yet. -/
theorem bufferOf_piece {s : State} {p : Span} (hp : p.first + p.count ≤ 64) :
    (if needsNoMemory s p then (readBytes s p).map some else List.replicate p.count none) =
      if covered s p then (spanOffsets p).map (pendingByte s p)
      else match uninitialisedPattern s.rsw p.line with
        | some pattern => (spanOffsets p).map (fun k => some ((pendingByte s p k).getD (patternByte pattern k)))
        | none => (spanOffsets p).map (fun _ => none) := by
  cases hc : covered s p with
  | true =>
    rw [if_pos (by rw [needsNoMemory, hc]; rfl), if_pos rfl, readBytes, List.map_map]
    refine List.map_congr_left fun k hk => ?_
    obtain ⟨b, hb⟩ := pendingByte_isSome hc hk
    simp [hb]
  | false =>
    rw [if_neg (c := (false = true)) (by simp)]
    cases hu : uninitialisedPattern s.rsw p.line with
    | some pattern =>
      rw [if_pos (by rw [needsNoMemory, hc, hu]; rfl), readBytes, hu, List.map_map]
      rfl
    | none =>
      rw [if_neg (by rw [needsNoMemory, hc, hu]; simp)]
      simp [length_spanOffsets hp]

theorem SpansFrom.within {pos : Nat} {l : List Span} (h : SpansFrom pos l) : ∀ p ∈ l, p.first + p.count ≤ 64 := by
  induction l generalizing pos with
  | nil => nofun
  | cons p rest ih =>
    obtain ⟨-, hp, hrest⟩ := h
    intro x hx
    obtain rfl | hx := List.mem_cons.1 hx
    · exact hp
    · exact ih hrest x hx

theorem takeServed_read {q : Request} {c : Fin 16} {s : State} (hk : q.kind = .read) (hc : lowestFreeContext s.rdp = some c) :
    takeServed q s = some (takeRead q c s) := by
  rw [takeServed, hk]
  dsimp only
  rw [hc]

/-! ## The take of a READ -/

/-- The pieces that a READ resolves at its take (R73 to R75). -/
def takenPieces (q : Request) (c : Fin 16) (s : State) : List (Fin 16 × Nat × Span) := resolvedPieces s c (requestSpans q)

/-- The state after a READ's take. -/
def readTaken (q : Request) (c : Fin 16) (s : State) : State := resolvedAll (takenPieces q c s) (readOpened q c s)

/-- The context that a READ's take leaves. -/
def takenContext (q : Request) (c : Fin 16) (s : State) : Context :=
  { openedContext s.rdp q with
    pieces := (requestSpans q).map (fun p => { span := p, state := if needsNoMemory s p then .done .ok else .waiting }),
    buffer := (takenPieces q c s).foldl (fun buffer b => writeBuffer buffer b.2.2.pos (readBytes s b.2.2))
      (List.replicate q.length.val none) }

theorem takeRead_readTaken (q : Request) (c : Fin 16) (s : State) : takeRead q c s = readTaken q c s := by
  rw [takeRead_eq, resolveAll_eq, resolvedAll_filter]
  rfl

section
variable {q : Request} {c : Fin 16} {s : State}

theorem readOpened_context : (readOpened q c s).rdp.contexts.get c = some (openedContext s.rdp q) := Table.get_set_self _ _ _

theorem takenPieces_wait : PiecesWait (readOpened q c s) (takenPieces q c s) :=
  resolvedPieces_wait (s := readOpened q c s) readOpened_context rfl

theorem takenPieces_resolved : ∀ b ∈ takenPieces q c s, resolve (readOpened q c s) b.2.2 ≠ .memory :=
  resolvedPieces_resolved (s := readOpened q c s)

theorem takenPieces_context : (takenPieces q c s).filter (fun b => b.1 == c) = takenPieces q c s := resolvedPieces_context

theorem takenPieces_index : ∀ b ∈ takenPieces q c s, b.1 = c := fun _ hb =>
  (mem_indexedPieces.1 (List.mem_filter.1 hb).1).1

theorem readTaken_context : (readTaken q c s).rdp.contexts.get c = some (takenContext q c s) := by
  have hfound := takenPieces_wait.found (readOpened_context (q := q) (c := c) (s := s))
  have hpieces := piecesDone_resolved (s := readOpened q c s) (l := requestSpans q) readOpened_context rfl
  rw [takenPieces_context] at hfound
  rw [readTaken, resolvedAll_contexts takenPieces_resolved, readOpened_context, Option.map_some, takenPieces_context,
    finishedContext_found hfound]
  exact congrArg (fun pieces => some { takenContext q c s with pieces := pieces }) hpieces

theorem readTaken_contexts : (readTaken q c s).rdp.contexts = s.rdp.contexts.set c (some (takenContext q c s)) := by
  refine Table.ext_get fun d => ?_
  by_cases hd : d = c
  · subst hd
    rw [readTaken_context, Table.get_set_self]
  · have hnone : (takenPieces q c s).filter (fun b => b.1 == d) = [] :=
      List.filter_eq_nil_iff.2 fun b hb h => hd ((beq_iff_eq.1 h).symm.trans (takenPieces_index b hb))
    have hother : (readOpened q c s).rdp.contexts.get d = s.rdp.contexts.get d := Table.get_set_ne _ (Ne.symm hd) _
    rw [readTaken, resolvedAll_contexts takenPieces_resolved, hnone, hother, Table.get_set_ne _ (Ne.symm hd)]
    cases s.rdp.contexts.get d <;> rfl

theorem contextDone_takenContext : contextDone (takenContext q c s) = (requestSpans q).all (needsNoMemory s) := by
  rw [contextDone, takenContext, List.all_map]
  congr 1
  funext p
  cases hp : needsNoMemory s p <;> simp [pieceDone, hp]

/-- The context joins the order list exactly when every piece is resolved at the take (log entry 6). -/
theorem readTaken_ready (hne : requestSpans q ≠ []) : (readTaken q c s).rdp.ready =
    if (requestSpans q).all (needsNoMemory s) then s.rdp.ready ++ [c] else s.rdp.ready := by
  obtain ⟨more, hready, hnodup, hmore⟩ := resolvedAll_ready (takenPieces_wait (q := q) (c := c) (s := s)) takenPieces_resolved
  have honly : ∀ d ∈ more, d = c := fun d hd => by
    obtain ⟨⟨b, hb, rfl⟩, -⟩ := (hmore d).1 hd
    exact takenPieces_index b hb
  refine hready.trans ?_
  split
  · rename_i hall
    obtain ⟨p, rest, hp⟩ := List.exists_cons_of_ne_nil hne
    have hpmem : p ∈ (takenPieces q c s).map (fun b => b.2.2) := by
      rw [takenPieces, resolvedPieces_spans, List.mem_filter]
      exact ⟨by simp [hp], List.all_eq_true.1 hall p (by simp [hp])⟩
    obtain ⟨b, hb, -⟩ := List.mem_map.1 hpmem
    have hmem : c ∈ more :=
      (hmore c).2 ⟨⟨b, hb, takenPieces_index b hb⟩, _, readTaken_context, contextDone_takenContext.trans hall⟩
    have hmore' : more = [c] := List.perm_singleton.1 ((List.perm_ext_iff_of_nodup hnodup (List.nodup_singleton c)).2 fun d =>
      ⟨fun hd => by simp [honly d hd], fun hd => List.mem_singleton.1 hd ▸ hmem⟩)
    rw [hmore']
    rfl
  · rename_i hall
    have hmore' : more = [] := List.eq_nil_iff_forall_not_mem.2 fun d hd => hall (by
      obtain ⟨-, z, hz, hzdone⟩ := (hmore d).1 hd
      rw [honly d hd] at hz
      cases (readTaken_context (q := q) (c := c) (s := s)).symm.trans hz
      exact contextDone_takenContext ▸ hzdone)
    rw [hmore']
    exact List.append_nil _

theorem countP_pattern : (takenPieces q c s).countP (fun b => !covered s b.2.2) = (requestSpans q).countP (fun p =>
    !covered s p && (uninitialisedPattern s.rsw p.line).isSome) := by
  have hin : (takenPieces q c s).countP (fun b => !covered s b.2.2) =
      (takenPieces q c s).countP (fun b => !covered s b.2.2 && (uninitialisedPattern s.rsw b.2.2.line).isSome) := by
    refine List.countP_congr fun b hb => ?_
    have hneeds := (List.mem_filter.1 hb).2
    rw [needsNoMemory, Bool.or_eq_true] at hneeds
    cases hc : covered s b.2.2
    · simpa [hc] using hneeds
    · simp
  rw [hin]
  exact countP_resolvedPieces c _ (p := fun p => !covered s p && (uninitialisedPattern s.rsw p.line).isSome) fun p hp => by
    rw [needsNoMemory, (Bool.and_eq_true_iff.1 hp).2, Bool.or_true]

/-- Every piece resolved at the take is counted, as forwarded or as answered from the pattern (R76). -/
theorem readTaken_nu : (readTaken q c s).nu = { s.nu with counters := { s.nu.counters with
    forwardedReads := countUp^[(requestSpans q).countP (covered s)] s.nu.counters.forwardedReads,
    patternReads := countUp^[(requestSpans q).countP (fun p =>
      !covered s p && (uninitialisedPattern s.rsw p.line).isSome)] s.nu.counters.patternReads } } := by
  have hforwarded : (takenPieces q c s).countP (fun b => covered s b.2.2) = (requestSpans q).countP (covered s) :=
    countP_resolvedPieces c _ (p := covered s) fun p hp => by rw [needsNoMemory, hp]; rfl
  rw [← hforwarded, ← countP_pattern (c := c)]
  exact resolvedAll_nu takenPieces_resolved

theorem takenContext_buffer (hle : q.length.val ≤ 64) : (takenContext q c s).buffer = (requestSpans q).flatMap (fun p =>
    if needsNoMemory s p then (readBytes s p).map some else List.replicate p.count none) := by
  obtain ⟨hfrom, hcount, -⟩ := requestSpans_from hle
  have hwritten := foldl_writeBuffer (resolved := needsNoMemory s) (bytes := readBytes s) (l := requestSpans q) (buffer := [])
    hfrom fun p hp => length_readBytes (hfrom.within p hp)
  rw [hcount, ← resolvedPieces_spans s c, List.foldl_map] at hwritten
  exact hwritten

end

/-- Settles O14. -/
theorem readTakeResolvesItsPieces : Obligations.ReadTakeResolvesItsPieces := by
  intro time q c s hs hq hk hpass hc
  obtain ⟨-, hle⟩ := judge_passes_length hpass (.inl hk)
  obtain ⟨hfrom, -, hne⟩ := requestSpans_from hle
  have hexec := exec_take_served (time := time) hs hq hpass (u := readTaken q c (headAlone time q s)) (by
    rw [closedFor_not_write (by rw [hk]; nofun), takeServed_read hk (by exact hc), takeRead_readTaken])
  have hrqp : (readTaken q c (headAlone time q s)).rqp = (readOpened q c (headAlone time q s)).rqp := by
    rw [readTaken, resolvedAll_only]
  refine ⟨_, takenContext q c s, hexec, readTaken_contexts, rfl, rfl, rfl, rfl, rfl, fun d y hy => lt_newAge hy, ?_, ?_,
    readTaken_ready (s := headAlone time q s) hne, readTaken_nu (s := headAlone time q s), ?_, ?_, rfl, ?_⟩
  · simp only [takenContext, needsNoMemory, Bool.or_eq_true]
  · rw [takenContext_buffer hle]
    exact List.flatMap_congr fun p hp => bufferOf_piece (hfrom.within p hp)
  · exact (congrArg Rqp.tags hrqp :)
  · exact (congrArg Rqp.wrt hrqp :)
  · rw [judgeStarvation_eq, readTaken, resolvedAll_only]; rfl

end Sys2Proof.Machine
end

section
/-! Where a WRITE's piece goes: it merges into the GATHERING entry of its line or opens the lowest FREE entry (R4 to R7, R13). -/

namespace Sys2Proof.Machine

/-! ## Looking an entry up -/

theorem gatheringOf_congr {l l' : Lat} {line : Nat}
    (h : ∀ k, entryIs (fun e => isGathering e && e.line == line) (l'.entries.get k) =
      entryIs (fun e => isGathering e && e.line == line) (l.entries.get k)) : gatheringOf l' line = gatheringOf l line := by
  simp only [gatheringOf, Table.findLowest, h]

theorem mergeTarget_of_gathering {l : Lat} {aoc : Bool} {p : Span} {i : Fin 32} (h : gatheringOf l p.line = some i)
    (hroom : aoc = true → ∀ e, l.entries.get i = some e → e.held.length < 4) : mergeTarget l aoc p = some i := by
  obtain ⟨e, he, -⟩ := gatheringOf_some h
  unfold mergeTarget
  rw [h]
  dsimp only
  refine if_pos ?_
  cases aoc with
  | false => rfl
  | true => exact entryIs_iff.2 ⟨e, he, decide_eq_true (hroom rfl e he)⟩

theorem mergeTarget_of_none {l : Lat} {p : Span} (h : gatheringOf l p.line = none) (aoc : Bool) : mergeTarget l aoc p = none := by
  unfold mergeTarget
  rw [h]

theorem lowestFreeEntry_of {l : Lat} {i : Fin 32} (h : l.entries.get i = none)
    (hlt : ∀ k : Fin 32, k < i → (l.entries.get k).isSome = true) : lowestFreeEntry l = some i :=
  findLowest_eq_some (by rw [h]; rfl) fun k hk => by rw [Option.isNone_eq_false_iff]; exact hlt k hk

/-! ## One piece -/

/-- The record that the pieces of a WRITE hold: the WRT record of an AOC WRITE. -/
def recordOf (q : Request) (w : Fin 16) : Option (Fin 16) := if q.aoc then some w else none

theorem heldOf_recordOf (q : Request) (w : Fin 16) : heldOf (recordOf q w) = if q.aoc then [w] else [] := by
  unfold recordOf
  split <;> rfl

/-- The entry of a piece before it is closed for MASK_FULL. -/
def gatheredEntry (s : State) (q : Request) (w : Fin 16) (p : Span) : Option Entry → Entry
  | some e => mergedEntry s q (recordOf q w) p e
  | none => openedEntry s q (recordOf q w) p

/-- The entry of a piece, closed for MASK_FULL when its byte set is full (R13). -/
def filledEntry (i : Fin 32) (b : Entry) (l : Lat) : Entry :=
  if cellsFull b.cells then
    { b with state := .closed, closeNumber := some (newCloseNumber { l with entries := l.entries.set i (some b) }), deadline := none }
  else b

theorem filledEntry_cells (i : Fin 32) (b : Entry) (l : Lat) : (filledEntry i b l).cells = b.cells := by
  unfold filledEntry
  split <;> rfl

theorem placedLat_found {i : Fin 32} {b : Entry} {l : Lat} (hg : b.state = .gathering) : placedLat i b l = { l with
    entries := l.entries.set i (some (filledEntry i b l)),
    issueQueue := l.issueQueue ++ (if cellsFull b.cells then [i] else []) } := by
  unfold placedLat filledEntry
  split
  · rw [closeIn_gathering (by nofun) (e := b) (Table.get_set_self _ _ _) hg]
    dsimp only
    rw [set_set]
  · rw [List.append_nil]

/-- Where a piece goes: into its line's GATHERING entry, or into the lowest FREE one. -/
def GoesTo (s : State) (q : Request) (p : Span) (i : Fin 32) : Prop :=
  (mergeTarget s.lat q.aoc p = some i ∧ ∃ e, s.lat.entries.get i = some e ∧ e.state = .gathering ∧ e.line = p.line) ∨
  (mergeTarget s.lat q.aoc p = none ∧ lowestFreeEntry s.lat = some i ∧ s.lat.entries.get i = none)

theorem goesTo_merge {s : State} {q : Request} {p : Span} {i : Fin 32} (h : gatheringOf s.lat p.line = some i)
    (hroom : q.aoc = true → ∀ e, s.lat.entries.get i = some e → e.held.length < 4) : GoesTo s q p i :=
  .inl ⟨mergeTarget_of_gathering h hroom, gatheringOf_some h⟩

theorem goesTo_open {s : State} {q : Request} {p : Span} {i : Fin 32} (h : gatheringOf s.lat p.line = none)
    (hi : s.lat.entries.get i = none) (hlt : ∀ k : Fin 32, k < i → (s.lat.entries.get k).isSome = true) : GoesTo s q p i :=
  .inr ⟨mergeTarget_of_none h q.aoc, lowestFreeEntry_of hi hlt, hi⟩

/-- The Notification Unit after a piece: MERGES counts a merge. -/
def mergesCounted (old : Option Entry) (u : Nu) : Nu :=
  if old.isSome then { u with counters := { u.counters with merges := countUp u.counters.merges } } else u

theorem placePiece_found {s : State} {q : Request} {w : Fin 16} {p : Span} {i : Fin 32} (h : GoesTo s q p i) :
    placePiece q (recordOf q w) s p = { s with
      lat := placedLat i (gatheredEntry s q w p (s.lat.entries.get i)) s.lat,
      nu := mergesCounted (s.lat.entries.get i) s.nu } := by
  obtain ⟨htarget, e, he, -⟩ | ⟨htarget, hlowest, hi⟩ := h
  · unfold placePiece
    rw [htarget]
    dsimp only
    unfold mergePiece
    rw [he]
    dsimp only [gatheredEntry, mergesCounted, Option.isSome_some]
    unfold closeIfFull placedLat
    split <;> rfl
  · unfold placePiece
    rw [htarget]
    dsimp only
    unfold openPiece
    rw [hlowest, hi]
    dsimp only [gatheredEntry, mergesCounted, Option.isSome_none]
    unfold closeIfFull placedLat
    split <;> rfl

theorem gatheredEntry_gathering {s : State} {q : Request} {p : Span} {i : Fin 32} (h : GoesTo s q p i) (w : Fin 16) :
    (gatheredEntry s q w p (s.lat.entries.get i)).state = .gathering ∧
    (gatheredEntry s q w p (s.lat.entries.get i)).line = p.line := by
  obtain ⟨-, e, he, hg, hline⟩ | ⟨-, -, hi⟩ := h
  · rw [he]; exact ⟨hg, hline⟩
  · rw [hi]; exact ⟨rfl, rfl⟩

theorem gatheredEntry_cells (s : State) (q : Request) (w : Fin 16) (p : Span) (old : Option Entry) (k : Fin 64) :
    (gatheredEntry s q w p old).cells.get k =
      if spanHolds p k then .written (spanByte p q.data k) else (old.map (fun x => x.cells.get k)).getD .unset := by
  cases old with
  | some e => exact Table.get_ofFn _ k
  | none =>
    refine (Table.get_ofFn _ k).trans ?_
    rw [blankCells, Table.get_fill]
    rfl

theorem gatheredEntry_closeNumber (s : State) (q : Request) (w : Fin 16) (p : Span) (old : Option Entry) :
    (gatheredEntry s q w p old).closeNumber = old.bind Entry.closeNumber := by
  cases old <;> rfl

/-- The entry of a piece as the statements describe it. -/
theorem filledEntry_placed {s : State} {q : Request} {p : Span} {i : Fin 32} (h : GoesTo s q p i) (w : Fin 16) :
    PiecePlaced s q w p s.now (s.lat.entries.get i)
      (filledEntry i (gatheredEntry s q w p (s.lat.entries.get i)) s.lat) := by
  obtain ⟨hg, hline⟩ := gatheredEntry_gathering h w
  obtain ⟨old, hold⟩ : ∃ old, old = s.lat.entries.get i := ⟨_, rfl⟩
  obtain ⟨b, hb⟩ : ∃ b, b = gatheredEntry s q w p old := ⟨_, rfl⟩
  rw [← hold, ← hb] at hg hline ⊢
  have hcells := gatheredEntry_cells s q w p old
  have hnumber := gatheredEntry_closeNumber s q w p old
  have hwho : ∀ r, b.contributors.has r = (old.any (fun x => x.contributors.has r) || decide (r = q.requester)) := fun r => by
    rw [hb]
    cases old with
    | some e => exact (FinSet.has_insert _ _ _).trans (by rw [Bool.or_comm]; simp [eq_comm])
    | none => exact (FinSet.has_insert _ _ _).trans (by simp [eq_comm])
  have hheld : b.held = (old.map Entry.held).getD [] ++ (if q.aoc then [w] else []) := by
    rw [hb, ← heldOf_recordOf]
    cases old <;> rfl
  have hbarrier : b.barrier = old.bind Entry.barrier := by rw [hb]; cases old <;> rfl
  have hfill : b.fill = old.bind Entry.fill := by rw [hb]; cases old <;> rfl
  have hmerge : b.lastMerge = s.now := by rw [hb]; cases old <;> rfl
  have hdeadline : b.deadline = gatherDeadlineFrom s := by rw [hb]; cases old <;> rfl
  rw [← hb] at hcells hnumber
  unfold filledEntry
  split
  · rename_i hfull
    exact {
      line := hline, cells := hcells, contributors := hwho, held := hheld, barrier := hbarrier, fill := hfill, lastMerge := hmerge
      gathering := fun hnot => nomatch hfull.symm.trans hnot
      closed := fun _ => by
        refine ⟨rfl, rfl, _, rfl, fun j x m hx hm => ?_⟩
        by_cases hj : i = j
        · subst hj
          rw [← hold] at hx
          refine lt_newCloseNumber (i := i) (e := b) (Table.get_set_self _ _ _) ?_
          rw [hnumber, hx]
          exact hm
        · exact lt_newCloseNumber (i := j) (e := x) ((Table.get_set_ne _ hj _).trans hx) hm }
  · rename_i hfull
    exact {
      line := hline, cells := hcells, contributors := hwho, held := hheld, barrier := hbarrier, fill := hfill, lastMerge := hmerge
      gathering := fun _ => ⟨hg, hnumber, hdeadline⟩
      closed := fun hyes => absurd hyes hfull }

/-- A piece, as the state is after it. -/
theorem placePiece_placed {s : State} {q : Request} {p : Span} {i : Fin 32} (h : GoesTo s q p i) (w : Fin 16) :
    ∃ e, placePiece q (recordOf q w) s p = { s with
        lat := { s.lat with
          entries := s.lat.entries.set i (some e),
          issueQueue := s.lat.issueQueue ++ (if cellsFull e.cells then [i] else []) },
        nu := mergesCounted (s.lat.entries.get i) s.nu } ∧
      PiecePlaced s q w p s.now (s.lat.entries.get i) e := by
  refine ⟨_, ?_, filledEntry_placed h w⟩
  rw [placePiece_found h, placedLat_found (gatheredEntry_gathering h w).1, filledEntry_cells]

end Sys2Proof.Machine
end

section
/-! The take of a WRITE that matches no release rule (R4 to R7, R142, R144). -/

namespace Sys2Proof.Machine

/-! ## The take -/

/-- The state in which the pieces of a WRITE are placed: an AOC WRITE holds its tag and its record already. -/
def writeBase (q : Request) (w : Fin 16) (s : State) : State :=
  if q.aoc then holdTag q.requester q.tag (openWrt q w s) else s

/-- The state of a WRITE's take after its pieces: a posted WRITE is answered OK. -/
def writeAnswered (q : Request) (s : State) : State :=
  if q.aoc then s else respond q.requester q.tag .ok [] s

theorem takeServed_write {q : Request} {w : Fin 16} {s : State} (hk : q.kind = .write)
    (hfree : entriesNeeded s q ≤ freeEntries s.lat) (hw : q.aoc = true → lowestFreeWrt s.rqp = some w) :
    takeServed q s = some (writeAnswered q (placeWrite q (recordOf q w) (writeBase q w s))) := by
  unfold takeServed
  rw [hk]
  dsimp only
  rw [if_neg (Nat.not_lt.2 hfree)]
  cases haoc : q.aoc with
  | true =>
    rw [if_pos rfl, hw haoc]
    simp only [writeAnswered, writeBase, recordOf, haoc, if_true]
    rfl
  | false =>
    rw [if_neg (by simp)]
    simp [writeAnswered, writeBase, recordOf, haoc, takePosted]

theorem placeWrite_no_rule {q : Request} {w : Option (Fin 16)} {s : State} (h : ruleFor s.ord q = none) :
    placeWrite q w s = (requestSpans q).foldl (placePiece q w) s := by
  unfold placeWrite
  rw [h]

/-- A WRITE finds its resources: no entry of its lines has a full held list, and there are FREE entries enough. -/
structure HasEntries (q : Request) (s : State) : Prop where
  room : heldLimitEntries s q = []
  free : entriesNeeded s q ≤ freeEntries s.lat

theorem closedFor_of_entries {q : Request} {s : State} (h : HasEntries q s) : closedFor q s = s := by
  unfold closedFor
  split
  · have hsame : ({ s with lat := closeEach .heldLimit [] s.lat } : State) = s := rfl
    rw [resourceCloses, h.room, hsame, evictFor, if_neg]
    rw [Bool.and_eq_true, decide_eq_true_eq]
    exact fun hlt => absurd hlt.1 (Nat.not_lt.2 h.free)
  · rfl

/-- The take of a WRITE that finds its resources, by what its pieces make of the table and the counters. -/
theorem exec_take_write {s : State} {q : Request} {w : Fin 16} {time : Nat} {l : Lat} {u : Nu} (hs : s.held = false)
    (hq : s.rqp.intake ++ s.rqp.link = [q]) (hk : q.kind = .write) (hpass : judge s q = .passes)
    (hentries : HasEntries q (headAlone time q s)) (hw : q.aoc = true → lowestFreeWrt s.rqp = some w)
    (hplace : placeWrite q (recordOf q w) (writeBase q w (headAlone time q s)) =
      { writeBase q w (headAlone time q s) with lat := l, nu := u }) :
    ∃ t, exec (.take time) s = .next t ∧ t.lat = l ∧ t.nu = u ∧ t.rqp.intake ++ t.rqp.link = [] ∧
      t.rqp.tags = (if q.aoc then s.rqp.tags ++ [(q.requester, q.tag)] else s.rqp.tags) ∧
      t.rqp.wrt = (if q.aoc then
          s.rqp.wrt.set w
            (some { requester := q.requester, tag := q.tag, outstanding := (requestSpans q).length, worst := .ok })
        else s.rqp.wrt) ∧
      t = { s with
        rqp := t.rqp, lat := t.lat, starvation := t.starvation, nu := t.nu, now := max s.now time,
        out := if q.aoc then s.out
          else { s.out with responses := s.out.responses ++
            [{ requester := q.requester, tag := q.tag, status := .ok, data := [] }] } } := by
  have hserved := takeServed_write (w := w) hk hentries.free (by exact hw)
  have hexec := exec_take_served hs hq hpass (by rw [closedFor_of_entries hentries]; exact hserved)
  rw [hplace] at hexec
  cases haoc : q.aoc with
  | true =>
    simp only [writeBase, writeAnswered, haoc, if_true] at hexec
    exact ⟨_, hexec, rfl, rfl, rfl, rfl, rfl, rfl⟩
  | false =>
    simp only [writeBase, writeAnswered, haoc, Bool.false_eq_true, if_false] at hexec
    exact ⟨_, hexec, rfl, rfl, rfl, rfl, rfl, rfl⟩

/-! ## One piece -/

theorem one_piece {q : Request} {p : Span} (h : requestSpans q = [p]) :
    p.count = q.length.val ∧ p.first + p.count ≤ 64 := by
  unfold requestSpans at h
  dsimp only at h
  split at h
  · rename_i hle
    cases h
    exact ⟨rfl, hle⟩
  · cases h

theorem cellsFull_iff (cells : LineCells) : cellsFull cells = true ↔ ∀ k, (cells.get k).isWritten = true :=
  Table.all_iff _ _

/-- A piece that opens an entry fills it exactly when it is a whole line. -/
theorem opened_full_iff {s : State} {q : Request} {w : Fin 16} {p : Span} {moment : Nat} {e : Entry}
    (h : PiecePlaced s q w p moment none e) (hp : p.first + p.count ≤ 64) : cellsFull e.cells = true ↔ p.count = 64 := by
  rw [cellsFull_iff]
  constructor
  · intro hfull
    by_contra hcount
    have hholds : ∀ k, spanHolds p k = true := fun k => by
      by_contra hk
      have hk' := hfull k
      rw [h.cells k, if_neg hk] at hk'
      exact nomatch hk'
    have hfirst := of_decide_eq_true (hholds 0)
    have hlast := of_decide_eq_true (hholds 63)
    simp only [Fin.val_zero] at hfirst
    have h63 : (63 : Fin 64).val = 63 := rfl
    rw [h63] at hlast
    omega
  · intro hcount k
    have hholds : spanHolds p k = true := decide_eq_true (by have := k.isLt; omega)
    rw [h.cells k, if_pos hholds]
    rfl

theorem freeEntries_pos {l : Lat} {i : Fin 32} (h : l.entries.get i = none) : 1 ≤ freeEntries l :=
  List.length_pos_of_mem ((Table.mem_indices _ _ _).2 (by rw [h]; rfl))

/-- A piece that opens an entry needs one, and its lines have no full held list. -/
theorem hasEntries_opens {s : State} {q : Request} {p : Span} {i : Fin 32} (hspans : requestSpans q = [p])
    (hgather : gatheringOf s.lat p.line = none) (hi : s.lat.entries.get i = none) : HasEntries q s := by
  refine ⟨?_, ?_⟩
  · unfold heldLimitEntries
    split
    · rw [hspans]
      simp [hgather]
    · rfl
  · refine le_trans ?_ (freeEntries_pos hi)
    rw [entriesNeeded, hspans]
    exact Nat.sub_le _ _

theorem writeBase_same (q : Request) (w : Fin 16) (s : State) : (writeBase q w s).lat = s.lat ∧ (writeBase q w s).nu = s.nu ∧
    (writeBase q w s).ord = s.ord ∧ (writeBase q w s).mli = s.mli ∧ (writeBase q w s).now = s.now := by
  unfold writeBase
  split <;> exact ⟨rfl, rfl, rfl, rfl, rfl⟩

theorem GoesTo.congr {s t : State} {q : Request} {p : Span} {i : Fin 32} (h : GoesTo s q p i) (hlat : t.lat = s.lat) :
    GoesTo t q p i := by
  unfold GoesTo
  rw [hlat]
  exact h

theorem PiecePlaced.congr {s t : State} {q : Request} {w : Fin 16} {p : Span} {moment : Nat} {old : Option Entry} {e : Entry}
    (h : PiecePlaced s q w p moment old e) (hlat : t.lat = s.lat) (hmli : t.mli = s.mli) :
    PiecePlaced t q w p moment old e := by
  obtain ⟨h₁, h₂, h₃, h₄, h₅, h₆, h₇, h₈, h₉⟩ := h
  exact ⟨h₁, h₂, h₃, h₄, h₅, h₆, h₇, by rw [hmli]; exact h₈, by rw [hlat]; exact h₉⟩

/-- The take of a WRITE of one piece that finds its place. -/
theorem exec_take_piece {s : State} {q : Request} {w : Fin 16} {p : Span} {i : Fin 32} {time : Nat} (hs : s.held = false)
    (hq : s.rqp.intake ++ s.rqp.link = [q]) (hk : q.kind = .write) (hpass : judge s q = .passes)
    (hrule : ruleFor s.ord q = none) (hspans : requestSpans q = [p]) (hentries : HasEntries q (headAlone time q s))
    (hw : q.aoc = true → lowestFreeWrt s.rqp = some w) (hgoes : GoesTo s q p i) :
    ∃ t e, exec (.take time) s = .next t ∧ PiecePlaced s q w p (max s.now time) (s.lat.entries.get i) e ∧
      t.lat = { s.lat with
        entries := s.lat.entries.set i (some e),
        issueQueue := s.lat.issueQueue ++ (if cellsFull e.cells then [i] else []) } ∧
      t.nu = mergesCounted (s.lat.entries.get i) s.nu ∧ t.rqp.intake ++ t.rqp.link = [] ∧
      t.rqp.tags = (if q.aoc then s.rqp.tags ++ [(q.requester, q.tag)] else s.rqp.tags) ∧
      t.rqp.wrt = (if q.aoc then
          s.rqp.wrt.set w (some { requester := q.requester, tag := q.tag, outstanding := 1, worst := .ok })
        else s.rqp.wrt) ∧
      t = { s with
        rqp := t.rqp, lat := t.lat, starvation := t.starvation, nu := t.nu, now := max s.now time,
        out := if q.aoc then s.out
          else { s.out with responses := s.out.responses ++
            [{ requester := q.requester, tag := q.tag, status := .ok, data := [] }] } } := by
  obtain ⟨hlat, hnu, hord, hmli, hnow⟩ := writeBase_same q w (headAlone time q s)
  obtain ⟨e, hplace, hplaced⟩ := placePiece_placed (hgoes.congr (t := writeBase q w (headAlone time q s)) hlat) w
  have hwrite : placeWrite q (recordOf q w) (writeBase q w (headAlone time q s)) =
      placePiece q (recordOf q w) (writeBase q w (headAlone time q s)) p := by
    rw [placeWrite_no_rule (by rw [hord]; exact hrule), hspans]
    rfl
  obtain ⟨t, hexec, htlat, htnu, hnil, htags, hwrt, hshape⟩ := exec_take_write hs hq hk hpass hentries hw (hwrite.trans hplace)
  rw [hspans] at hwrt
  rw [hlat] at htlat hplaced
  rw [hlat, hnu] at htnu
  rw [hnow] at hplaced
  exact ⟨t, e, hexec, hplaced.congr hlat.symm hmli.symm, htlat, htnu, hnil, htags, hwrt, hshape⟩

/-! ## Posted and acknowledged WRITEs of one piece -/

/-- The entry that a WRITE of one piece opens, as O7 and O9 describe it. -/
theorem opened_described {s : State} {q : Request} {w : Fin 16} {p : Span} {moment : Nat} {e : Entry}
    (h : PiecePlaced s q w p moment none e) (hspans : requestSpans q = [p]) :
    e.line = p.line ∧ e.held = (if q.aoc then [w] else []) ∧ e.barrier = none ∧ e.fill = none ∧
    (∀ r, e.contributors.has r = decide (r = q.requester)) ∧
    (∀ k, e.cells.get k = if spanHolds p k then .written (spanByte p q.data k) else .unset) ∧
    e.lastMerge = moment ∧
    (q.length.val < 64 → e.state = .gathering ∧ e.closeNumber = none ∧
      e.deadline = (if s.mli.items.gatherTimeout = 0#32 then none else some (moment + s.mli.items.gatherTimeout.toNat))) ∧
    (q.length.val = 64 → e.state = .closed ∧ e.deadline = none ∧
      ∃ n, e.closeNumber = some n ∧ ∀ j x m, s.lat.entries.get j = some x → x.closeNumber = some m → m < n) ∧
    (cellsFull e.cells = true ↔ q.length.val = 64) := by
  obtain ⟨hcount, hwithin⟩ := one_piece hspans
  have hfull := opened_full_iff h hwithin
  rw [hcount] at hfull
  refine ⟨h.line, h.held.trans (List.nil_append _), h.barrier, h.fill, fun r => (h.contributors r).trans (Bool.false_or _),
    fun k => h.cells k, h.lastMerge, fun hlt => h.gathering ?_, fun heq => h.closed (hfull.2 heq), hfull⟩
  exact Bool.eq_false_iff.2 fun hf => by have := hfull.1 hf; omega

/-- Settles O7. -/
theorem postedWriteOpensAnEntry : Obligations.PostedWriteOpensAnEntry := by
  intro time q p i s hs hq hk haoc hpass hrule hspans hgather hi hlt
  obtain ⟨t, e, hexec, hplaced, hlat, hnu, hnil, htags, hwrt, hshape⟩ := exec_take_piece (w := 0) (time := time) hs hq hk hpass
    hrule hspans (hasEntries_opens (s := headAlone time q s) hspans hgather hi) (fun h => nomatch haoc.symm.trans h)
    (goesTo_open hgather hi hlt)
  rw [hi] at hplaced hnu
  obtain ⟨hline, hheld, hbarrier, hfill, hwho, hcells, hmerge, hshort, hwhole, hfull⟩ := opened_described hplaced hspans
  simp only [haoc, Bool.false_eq_true, if_false] at hheld htags hwrt hshape
  refine ⟨t, e, hexec, ?_, hline, hheld, hbarrier, hfill, hwho, hcells, hmerge, hshort, hwhole, hnil, htags, hwrt, ?_⟩
  · rw [hlat]
    simp only [hfull]
    split <;> simp
  · rw [hnu] at hshape
    exact hshape

/-- Settles O9. -/
theorem acknowledgedWriteOpensARecord : Obligations.AcknowledgedWriteOpensARecord := by
  intro time q p w i s hs hq hk haoc hpass hrule hspans hgather hlowest hw hwlt
  have hi := lowestFreeEntry_some hlowest
  have hwrt : lowestFreeWrt s.rqp = some w :=
    findLowest_eq_some (by rw [hw]; rfl) fun v hv => by rw [Option.isNone_eq_false_iff]; exact hwlt v hv
  obtain ⟨t, e, hexec, hplaced, hlat, hnu, hnil, htags, hwrt, hshape⟩ := exec_take_piece (w := w) (time := time) hs hq hk hpass
    hrule hspans (hasEntries_opens (s := headAlone time q s) hspans hgather hi) (fun _ => hwrt)
    (.inr ⟨mergeTarget_of_none hgather q.aoc, hlowest, hi⟩)
  rw [hi] at hplaced hnu
  obtain ⟨hline, hheld, hbarrier, hfill, hwho, hcells, hmerge, hshort, hwhole, hfull⟩ := opened_described hplaced hspans
  simp only [haoc, if_true] at hheld htags hwrt hshape
  refine ⟨t, e, hexec, hwrt, htags, hnil, ?_, hline, hheld, hbarrier, hfill, hwho, hcells, hmerge, hshort, hwhole, ?_⟩
  · rw [hlat]
    simp only [hfull]
    split <;> simp
  · rw [hnu] at hshape
    exact hshape

end Sys2Proof.Machine
end

section
/-! The HELD_LIMIT closes of an AOC WRITE (R10, R14), and the merges of a WRITE of one piece (R7). -/

namespace Sys2Proof.Machine

/-! ## The entries whose held list is full -/

theorem heldLimitEntries_not_aoc {s : State} {q : Request} (h : q.aoc = false) : heldLimitEntries s q = [] := by
  simp [heldLimitEntries, h]

theorem heldLimitEntries_rule {s : State} {q : Request} (h : (ruleFor s.ord q).isSome = true) : heldLimitEntries s q = [] := by
  have hnone : (ruleFor s.ord q).isNone = false := by
    rw [Option.isNone_eq_false_iff]
    exact h
  simp [heldLimitEntries, hnone]

theorem heldLimitEntries_aoc {s : State} {q : Request} (haoc : q.aoc = true) (hrule : ruleFor s.ord q = none) :
    heldLimitEntries s q = ((requestSpans q).filterMap (fun p => gatheringOf s.lat p.line)).filter
      (fun i => entryIs (fun e => decide (4 ≤ e.held.length)) (s.lat.entries.get i)) := by
  simp only [heldLimitEntries, haoc, hrule]
  rfl

/-- The GATHERING entries of a request's lines are different (R140). -/
theorem nodup_targets (l : Lat) (q : Request) : ((requestSpans q).filterMap (fun p => gatheringOf l p.line)).Nodup := by
  refine (requestSpans_lines q).filterMap _ fun p p' hne i hi j hj hij => hne ?_
  obtain ⟨e, he, -, hline⟩ := gatheringOf_some hi
  obtain ⟨x, hx, -, hline'⟩ := gatheringOf_some hj
  subst hij
  cases he.symm.trans hx
  exact hline'.symm.trans hline

theorem gathering_of_target {l : Lat} {q : Request} {i : Fin 32}
    (h : i ∈ (requestSpans q).filterMap (fun p => gatheringOf l p.line)) : entryIs isGathering (l.entries.get i) = true := by
  obtain ⟨p, -, hp⟩ := List.mem_filterMap.1 h
  obtain ⟨e, he, hg, -⟩ := gatheringOf_some hp
  exact entryIs_iff.2 ⟨e, he, (isGathering_iff e).2 hg⟩

theorem heldLimitEntries_targets {s : State} {q : Request} : ∀ i ∈ heldLimitEntries s q,
    i ∈ (requestSpans q).filterMap (fun p => gatheringOf s.lat p.line) := fun i hi => by
  unfold heldLimitEntries at hi
  split at hi
  · exact (List.mem_filter.1 hi).1
  · cases hi

theorem nodup_heldLimitEntries (s : State) (q : Request) : (heldLimitEntries s q).Nodup := by
  unfold heldLimitEntries
  split
  · exact (nodup_targets s.lat q).filter _
  · exact List.nodup_nil

/-- The state after the HELD_LIMIT closes for a request. -/
def heldLimitClosed (q : Request) (s : State) : State :=
  { s with lat := closeEach .heldLimit (heldLimitEntries s q) s.lat }

theorem gathering_of_heldLimit {s : State} {q : Request} :
    ∀ i ∈ heldLimitEntries s q, entryIs isGathering (s.lat.entries.get i) = true :=
  fun i hi => gathering_of_target (heldLimitEntries_targets i hi)

theorem heldLimitClosed_inTurn (q : Request) (s : State) :
    ClosedInTurn (heldLimitEntries s q) s.lat (heldLimitClosed q s).lat :=
  closeEach_inTurn (by nofun) _ _ (nodup_heldLimitEntries s q) gathering_of_heldLimit

theorem heldLimitClosed_law (q : Request) (s : State) :
    (heldLimitClosed q s).lat.issueQueue = s.lat.issueQueue ++ heldLimitEntries s q ∧
    (heldLimitClosed q s).lat.evictMark = s.lat.evictMark ∧
    ∀ k, k ∉ heldLimitEntries s q → (heldLimitClosed q s).lat.entries.get k = s.lat.entries.get k := by
  obtain ⟨hqueue, hmark, hkept, -⟩ := closeEach_law (cause := .heldLimit) (by nofun) _ s.lat (nodup_heldLimitEntries s q)
    gathering_of_heldLimit
  exact ⟨hqueue, hmark, hkept⟩

/-- An entry that is GATHERING after the closes was GATHERING before, as it is, and its held list has room where it is a target. -/
theorem heldLimitClosed_gathering {q : Request} {s : State} {i : Fin 32} {e : Entry}
    (he : (heldLimitClosed q s).lat.entries.get i = some e) (hg : e.state = .gathering) :
    s.lat.entries.get i = some e ∧ i ∉ heldLimitEntries s q := by
  have hnot : i ∉ heldLimitEntries s q := fun hi => by
    obtain ⟨x, hx, -⟩ := entryIs_iff.1 (gathering_of_heldLimit i hi)
    obtain ⟨n, hn, -⟩ := (heldLimitClosed_inTurn q s).closed i hi x hx
    cases he.symm.trans hn
    cases hg
  refine ⟨?_, hnot⟩
  rw [← (heldLimitClosed_law q s).2.2 i hnot]
  exact he

/-- Where no line has two GATHERING entries, the closes leave none on a line whose entry they closed. -/
theorem gatheringOf_heldLimitClosed {q : Request} {s : State} (h : GatherSound s.lat) {line : Nat} {i : Fin 32}
    (hi : gatheringOf (heldLimitClosed q s).lat line = some i) : gatheringOf s.lat line = some i ∧ i ∉ heldLimitEntries s q := by
  obtain ⟨e, he, hg, hline⟩ := gatheringOf_some hi
  obtain ⟨he', hnot⟩ := heldLimitClosed_gathering he hg
  exact ⟨hline ▸ h.gatheringOf he' hg, hnot⟩

/-- Once the closes are made there are none to make (R14). -/
theorem heldLimitEntries_heldLimitClosed {q : Request} {s : State} (h : GatherSound s.lat) :
    heldLimitEntries (heldLimitClosed q s) q = [] := by
  refine List.eq_nil_iff_forall_not_mem.2 fun i hi => ?_
  cases haoc : q.aoc with
  | false => rw [heldLimitEntries_not_aoc haoc] at hi; cases hi
  | true =>
    cases hrule : ruleFor s.ord q with
    | some k => rw [heldLimitEntries_rule (by exact congrArg Option.isSome hrule)] at hi; cases hi
    | none =>
      rw [heldLimitEntries_aoc haoc (by exact hrule)] at hi
      obtain ⟨htarget, hfull⟩ := List.mem_filter.1 hi
      obtain ⟨p, hp, hpi⟩ := List.mem_filterMap.1 htarget
      obtain ⟨hpi', hnot⟩ := gatheringOf_heldLimitClosed h hpi
      obtain ⟨e, he, hg, -⟩ := gatheringOf_some hpi
      rw [he, ← (heldLimitClosed_gathering he hg).1] at hfull
      refine hnot ?_
      rw [heldLimitEntries_aoc haoc hrule]
      exact List.mem_filter.2 ⟨List.mem_filterMap.2 ⟨p, hp, hpi'⟩, hfull⟩

/-- A WRITE is taken as from the state after its HELD_LIMIT closes. -/
theorem closedFor_heldLimitClosed {q : Request} {s : State} (h : GatherSound s.lat) (hk : q.kind = .write) :
    closedFor q (heldLimitClosed q s) = closedFor q s := by
  have hsame : ({ heldLimitClosed q s with lat := closeEach .heldLimit [] (heldLimitClosed q s).lat } : State) =
      heldLimitClosed q s := rfl
  rw [closedFor, closedFor, if_pos hk, if_pos hk, resourceCloses, heldLimitEntries_heldLimitClosed h, hsame]
  rfl

theorem exec_take_heldLimitClosed {s : State} {q : Request} {rest : List Request} (hs : s.held = false) (h : GatherLaw s)
    (hq : s.rqp.intake ++ s.rqp.link = q :: rest) (hk : q.kind = .write) (hpass : judge s q = .passes) (time : Nat) :
    exec (.take time) s = exec (.take time) (heldLimitClosed q s) := by
  have hjudge : judge (headFound time s) q = .passes := (judge_headFound time s q).trans hpass
  have hjudge' : judge (headFound time (heldLimitClosed q s)) q = .passes := (judge_congr q rfl rfl fun _ => rfl).trans hjudge
  have hfound : headFound time (heldLimitClosed q s) = heldLimitClosed q (headFound time s) := rfl
  rw [exec_take hs hq, exec_take (s := heldLimitClosed q s) hs hq, takeHead_passes hjudge, takeHead_passes hjudge', hfound,
    closedFor_heldLimitClosed (s := headFound time s) ((gatherLaw_iff s).1 h) hk]

/-! ## A WRITE of one piece on a line with a GATHERING entry -/

theorem hasEntries_merges {s : State} {q : Request} {p : Span} {i : Fin 32} {e : Entry} (hspans : requestSpans q = [p])
    (hrule : ruleFor s.ord q = none) (hgather : gatheringOf s.lat p.line = some i) (he : s.lat.entries.get i = some e)
    (hroom : q.aoc = true → e.held.length < 4) : HasEntries q s := by
  have hroom' : q.aoc = true → ∀ x, s.lat.entries.get i = some x → x.held.length < 4 := fun haoc x hx => by
    cases he.symm.trans hx
    exact hroom haoc
  refine ⟨?_, ?_⟩
  · cases haoc : q.aoc with
    | false => exact heldLimitEntries_not_aoc haoc
    | true =>
      rw [heldLimitEntries_aoc haoc hrule, hspans]
      have hlen := hroom haoc
      simp [hgather, he, entryIs, hlen]
  · have htargets : headTargets s q = [i] := by
      rw [headTargets, hrule, hspans]
      simp [mergeTarget_of_gathering hgather hroom']
    rw [entriesNeeded, htargets, hspans]
    exact Nat.zero_le _

/-- A head that passes and is not served stays, with the closes of its judgement made (R141). -/
theorem exec_take_waits {s : State} {q : Request} {rest : List Request} {time : Nat} (hs : s.held = false)
    (hq : s.rqp.intake ++ s.rqp.link = q :: rest) (hpass : judge s q = .passes)
    (hwaits : takeServed q (closedFor q (headFound time s)) = none) :
    ∃ t, exec (.take time) s = .next t ∧ t.rqp.intake ++ t.rqp.link = q :: rest ∧ t.rqp.tags = s.rqp.tags ∧
      t.rqp.wrt = s.rqp.wrt ∧ t.lat = (closedFor q (headFound time s)).lat ∧
      t = { s with rqp := t.rqp, lat := t.lat, starvation := t.starvation, now := max s.now time } := by
  have hjudge : judge (headFound time s) q = .passes := (judge_headFound time s q).trans hpass
  have hexec := exec_take hs hq time
  rw [takeHead_passes hjudge, hwaits] at hexec
  have hrqp : (closedFor q (headFound time s)).rqp = (headFound time s).rqp := by simp
  refine ⟨_, hexec, ?_, ?_, ?_, rfl, ?_⟩
  · rw [judgeStarvation_rqp, hrqp, headFound_stream, hq]
  · rw [judgeStarvation_rqp, hrqp]; rfl
  · rw [judgeStarvation_rqp, hrqp]; rfl
  · rw [judgeStarvation_eq, closedFor_only]; rfl

theorem takeServed_write_none {q : Request} {s : State} (hk : q.kind = .write)
    (h : freeEntries s.lat < entriesNeeded s q ∨ (q.aoc = true ∧ lowestFreeWrt s.rqp = none)) : takeServed q s = none := by
  unfold takeServed
  rw [hk]
  dsimp only
  split
  · rfl
  · rename_i hfree
    obtain h | ⟨haoc, hw⟩ := h
    · exact absurd h hfree
    · rw [if_pos haoc, hw]

theorem freeEntries_zero {l : Lat} (h : lowestFreeEntry l = none) : freeEntries l = 0 := by
  refine List.length_eq_zero_iff.2 (List.eq_nil_iff_forall_not_mem.2 fun i hi => ?_)
  exact absurd ((Table.mem_indices _ _ _).1 hi) (by rw [Table.findLowest_none h i]; simp)

/-- An eviction joins the Issue Queue and leaves the entries that are not GATHERING. -/
theorem evictFor_leaves (q : Request) (s : State) : ∃ later, (evictFor q s).lat.issueQueue = s.lat.issueQueue ++ later ∧
    ∀ i e, s.lat.entries.get i = some e → e.state ≠ .gathering → (evictFor q s).lat.entries.get i = some e := by
  have hsame : ∃ later, s.lat.issueQueue = s.lat.issueQueue ++ later ∧
      ∀ i e, s.lat.entries.get i = some e → e.state ≠ .gathering → s.lat.entries.get i = some e :=
    ⟨[], (List.append_nil _).symm, fun _ _ he _ => he⟩
  rw [evictFor_lat]
  split
  · cases hv : victim s q with
    | none => exact hsame
    | some v =>
      obtain h | ⟨x, hx, hgx, h⟩ := closeIn_cases .evict v s.lat
      · rw [Option.elim_some, h]; exact hsame
      · rw [Option.elim_some, h]
        refine ⟨[v], rfl, fun i e he hne => ?_⟩
        refine (Table.get_set_ne _ (fun hvi => ?_) _).trans he
        subst hvi
        cases he.symm.trans hx
        exact hne hgx
  · exact hsame

theorem gatheringOf_none_within {l l' : Lat} {line : Nat} (hw : GatherWithin l l') (h : gatheringOf l line = none) :
    gatheringOf l' line = none := by
  cases hi : gatheringOf l' line with
  | none => rfl
  | some i =>
    obtain ⟨e', he', hg', hline⟩ := gatheringOf_some hi
    obtain ⟨e, he, -, hgather⟩ := hw i e' he'
    obtain ⟨hg, hsame⟩ := hgather hg'
    exact absurd (hsame.symm.trans hline) (gatheringOf_none h he hg)

theorem entriesNeeded_of_none {s : State} {q : Request} {p : Span} (hspans : requestSpans q = [p])
    (h : gatheringOf s.lat p.line = none) : entriesNeeded s q = 1 := by
  have htargets : headTargets s q = [] := by
    unfold headTargets
    rw [hspans]
    split
    · rfl
    · simp [mergeTarget_of_none h q.aoc]
  rw [entriesNeeded, htargets, hspans]
  rfl

theorem lowestFreeEntry_congr {l l' : Lat} (h : ∀ i, (l'.entries.get i).isSome = (l.entries.get i).isSome) :
    lowestFreeEntry l' = lowestFreeEntry l := by
  have hnone : ∀ i, (l'.entries.get i).isNone = (l.entries.get i).isNone := fun i => by
    rw [← Option.not_isSome, ← Option.not_isSome, h i]
  simp only [lowestFreeEntry, Table.findLowest, hnone]

theorem heldLimitClosed_isSome (q : Request) (s : State) (i : Fin 32) :
    ((heldLimitClosed q s).lat.entries.get i).isSome = (s.lat.entries.get i).isSome :=
  closeEach_isSome .heldLimit _ i s.lat

theorem evictFor_isSome (q : Request) (s : State) (i : Fin 32) :
    ((evictFor q s).lat.entries.get i).isSome = (s.lat.entries.get i).isSome := by
  rw [evictFor_lat]
  split
  · cases victim s q with
    | none => rfl
    | some v => exact closeEach_isSome .evict [v] i s.lat
  · rfl

/-- With no HELD_LIMIT close to make, the resource step evicts, if anything. -/
theorem closedFor_evicts {q : Request} {s : State} (hk : q.kind = .write) (h : heldLimitEntries s q = []) :
    closedFor q s = evictFor q s := by
  rw [closedFor, if_pos hk, resourceCloses, h]
  rfl

section
variable {s : State} {q : Request} {p : Span}

/-- The HELD_LIMIT close of a WRITE of one piece: the entry closes with the newest close number, and its line has no GATHERING entry
left (R3, R14). -/
theorem heldLimitClosed_one {i : Fin 32} {e : Entry} (hlaw : GatherLaw s) (haoc : q.aoc = true) (hrule : ruleFor s.ord q = none)
    (hspans : requestSpans q = [p]) (hgather : gatheringOf s.lat p.line = some i) (he : s.lat.entries.get i = some e)
    (hfull : 4 ≤ e.held.length) : ∃ n,
      (heldLimitClosed q s).lat = { s.lat with
        entries := s.lat.entries.set i (some { e with state := .closed, closeNumber := some n, deadline := none }),
        issueQueue := s.lat.issueQueue ++ [i] } ∧
      (∀ j x m, s.lat.entries.get j = some x → x.closeNumber = some m → m < n) ∧
      gatheringOf (heldLimitClosed q s).lat p.line = none := by
  obtain ⟨x, hx, hgx, -⟩ := gatheringOf_some hgather
  cases he.symm.trans hx
  have hlimit : heldLimitEntries s q = [i] := by
    rw [heldLimitEntries_aoc haoc hrule, hspans]
    simp [hgather, he, entryIs, hfull]
  refine ⟨newCloseNumber s.lat, ?_, fun j x m hx hm => lt_newCloseNumber hx hm, Option.eq_none_iff_forall_ne_some.2 fun k hk => ?_⟩
  · rw [heldLimitClosed, hlimit]
    exact closeIn_gathering (by nofun) he hgx
  · obtain ⟨hk', hnot⟩ := gatheringOf_heldLimitClosed ((gatherLaw_iff s).1 hlaw) hk
    cases hgather.symm.trans hk'
    rw [hlimit] at hnot
    exact hnot (List.mem_singleton_self i)

/-- An AOC WRITE of one piece opens an entry under its record. -/
theorem exec_take_opens {j : Fin 32} {v : Fin 16} {time : Nat} (hs : s.held = false) (hq : s.rqp.intake ++ s.rqp.link = [q])
    (hk : q.kind = .write) (haoc : q.aoc = true) (hpass : judge s q = .passes) (hrule : ruleFor s.ord q = none)
    (hspans : requestSpans q = [p]) (hgather : gatheringOf s.lat p.line = none) (hj : lowestFreeEntry s.lat = some j)
    (hv : lowestFreeWrt s.rqp = some v) : ∃ t x, exec (.take time) s = .next t ∧
      t.lat = { s.lat with
        entries := s.lat.entries.set j (some x),
        issueQueue := s.lat.issueQueue ++ (if q.length.val = 64 then [j] else []) } ∧
      (x.state = (if q.length.val = 64 then .closed else .gathering) ∧ x.line = p.line ∧ x.held = [v] ∧
        (∀ r, x.contributors.has r = decide (r = q.requester)) ∧
        ∀ k, x.cells.get k = if spanHolds p k then .written (spanByte p q.data k) else .unset) ∧
      t.rqp.intake ++ t.rqp.link = [] ∧ t.rqp.tags = s.rqp.tags ++ [(q.requester, q.tag)] ∧
      t.rqp.wrt = s.rqp.wrt.set v (some { requester := q.requester, tag := q.tag, outstanding := 1, worst := .ok }) ∧
      t = { s with rqp := t.rqp, lat := t.lat, starvation := t.starvation, now := max s.now time } := by
  have hjfree := lowestFreeEntry_some hj
  obtain ⟨t, x, hexec, hplaced, hlat, hnu, hnil, htags, hwrt, hshape⟩ := exec_take_piece (w := v) (time := time) hs hq hk hpass
    hrule hspans (hasEntries_opens (s := headAlone time q s) hspans hgather hjfree) (fun _ => hv)
    (.inr ⟨mergeTarget_of_none hgather q.aoc, hj, hjfree⟩)
  rw [hjfree] at hplaced hnu
  obtain ⟨hline, hheld, -, -, hwho, hcells, -, hshort, hwhole, hfull⟩ := opened_described hplaced hspans
  simp only [haoc, if_true] at hheld htags hwrt hshape
  simp only [hfull] at hlat
  refine ⟨t, x, hexec, hlat, ⟨?_, hline, hheld, hwho, hcells⟩, hnil, htags, hwrt, ?_⟩
  · have hlen := (judge_passes_length hpass (.inr hk)).2
    split
    · rename_i h64; exact (hwhole h64).1
    · rename_i h64; exact (hshort (by omega)).1
  · rw [hnu] at hshape
    exact hshape

/-- An AOC WRITE of one piece that is short of an entry or a record stays, and at most an eviction is made (R15, R141). -/
theorem exec_take_short {time : Nat} (hs : s.held = false) (hq : s.rqp.intake ++ s.rqp.link = [q]) (hk : q.kind = .write)
    (haoc : q.aoc = true) (hpass : judge s q = .passes) (hspans : requestSpans q = [p])
    (hgather : gatheringOf s.lat p.line = none) (hroom : heldLimitEntries s q = [])
    (hmissing : lowestFreeEntry s.lat = none ∨ lowestFreeWrt s.rqp = none) : ∃ t later, exec (.take time) s = .next t ∧
      (∀ i e, s.lat.entries.get i = some e → e.state ≠ .gathering → t.lat.entries.get i = some e) ∧
      t.lat.issueQueue = s.lat.issueQueue ++ later ∧
      (t.rqp.intake ++ t.rqp.link = [q] ∧ t.rqp.tags = s.rqp.tags ∧ t.rqp.wrt = s.rqp.wrt) ∧
      t = { s with rqp := t.rqp, lat := t.lat, starvation := t.starvation, now := max s.now time } := by
  have hclosed := closedFor_evicts (s := headFound time s) hk hroom
  obtain ⟨later, hqueue, hkept⟩ := evictFor_leaves q (headFound time s)
  have hevicted : gatheringOf (evictFor q (headFound time s)).lat p.line = none :=
    gatheringOf_none_within (gatherWithin_closes.evictFor q (headFound time s)) hgather
  have hwaits : takeServed q (closedFor q (headFound time s)) = none := by
    rw [hclosed]
    refine takeServed_write_none hk (hmissing.imp (fun hnone => ?_) fun hnone => ⟨haoc, ?_⟩)
    · rw [freeEntries_zero ((lowestFreeEntry_congr (evictFor_isSome q (headFound time s))).trans hnone),
        entriesNeeded_of_none hspans hevicted]
      exact Nat.one_pos
    · have hwrt : (evictFor q (headFound time s)).rqp.wrt = s.rqp.wrt := by rw [evictFor_only]; rfl
      rw [lowestFreeWrt, hwrt]
      exact hnone
  obtain ⟨t, hexec, hstream, htags, hwrt, hlat, hshape⟩ := exec_take_waits hs hq hpass hwaits
  rw [hclosed] at hlat
  exact ⟨t, later, hexec, fun i e he hne => by rw [hlat]; exact hkept i e he hne, by rw [hlat]; exact hqueue,
    ⟨hstream, htags, hwrt⟩, hshape⟩

end

/-- Settles O8. -/
theorem postedWriteMergesIntoAnEntry : Obligations.PostedWriteMergesIntoAnEntry := by
  intro time q p w i e s hs hq hk hpass hrule hspans hgather he
  refine ⟨fun hroom => ?_, fun hlaw haoc hfull => ?_⟩
  · obtain ⟨x, hx, -, hline⟩ := gatheringOf_some hgather
    cases he.symm.trans hx
    obtain ⟨t, e', hexec, hplaced, hlat, hnu, hnil, htags, hwrt, hshape⟩ := exec_take_piece (w := w) (time := time) hs hq hk
      hpass hrule hspans (hasEntries_merges (s := headAlone time q s) hspans hrule hgather he fun h => (hroom h).1)
      (fun h => (hroom h).2) (goesTo_merge hgather fun h y hy => by
        cases he.symm.trans hy
        exact (hroom h).1)
    rw [he] at hplaced hnu
    refine ⟨t, e', hexec, congrArg Lat.entries hlat, hplaced.line.trans hline.symm, hplaced.held.trans ?_, hplaced.barrier,
      hplaced.fill, hplaced.contributors, fun k => hplaced.cells k, hplaced.lastMerge, fun h => ?_, fun h => ?_, hnu, hnil,
      htags, hwrt, (congrArg Lat.evictMark hlat :), hshape⟩
    · split
      · rfl
      · exact List.append_nil _
    · obtain ⟨hstate, hnumber, hdeadline⟩ := hplaced.gathering h
      refine ⟨hstate, ?_, hnumber, hdeadline⟩
      rw [hlat, h]
      exact List.append_nil _
    · obtain ⟨hstate, hdeadline, hnumber⟩ := hplaced.closed h
      refine ⟨hstate, hdeadline, ?_, hnumber⟩
      rw [hlat, h]
      rfl
  · obtain ⟨n, hulat, hnewest, hugather⟩ := heldLimitClosed_one hlaw haoc hrule hspans hgather he hfull
    have hstart := exec_take_heldLimitClosed hs hlaw hq hk hpass time
    have hupass : judge (heldLimitClosed q s) q = .passes := (judge_congr q rfl rfl fun _ => rfl).trans hpass
    have hufree : lowestFreeEntry (heldLimitClosed q s).lat = lowestFreeEntry s.lat :=
      lowestFreeEntry_congr (heldLimitClosed_isSome q s)
    have hui : (heldLimitClosed q s).lat.entries.get i =
        some { e with state := .closed, closeNumber := some n, deadline := none } := by
      rw [hulat]; exact Table.get_set_self _ _ _
    by_cases hready : ∃ j v, lowestFreeEntry s.lat = some j ∧ lowestFreeWrt s.rqp = some v
    · obtain ⟨j, v, hj, hv⟩ := hready
      obtain ⟨t, x, hexec, hlat, hx, hnil, htags, hwrt, hshape⟩ := exec_take_opens (time := time) (s := heldLimitClosed q s) hs hq
        hk haoc hupass hrule hspans hugather (hufree.trans hj) hv
      have hij : j ≠ i := fun h => by
        rw [h] at hj
        exact nomatch he.symm.trans (lowestFreeEntry_some hj)
      refine ⟨t, n, if q.length.val = 64 then [j] else [], hstart.trans hexec, ?_, hnewest, ?_, fun j' hj' hw' => ?_,
        fun h => ?_, hshape⟩
      · rw [hlat]
        exact (Table.get_set_ne _ hij _).trans hui
      · rw [hlat, hulat]
        exact List.append_assoc _ _ _
      · cases hj.symm.trans hj'
        cases hv.symm.trans hw'
        exact ⟨rfl, by rw [hlat, hulat], ⟨x, by rw [hlat, hulat], hx⟩, hnil, htags, hwrt⟩
      · rw [hj, hv] at h
        obtain h | h := h <;> cases h
    · have hmissing : lowestFreeEntry s.lat = none ∨ lowestFreeWrt s.rqp = none := by
        by_contra h
        obtain ⟨hj, hv⟩ := not_or.1 h
        obtain ⟨j, hj⟩ := Option.ne_none_iff_exists'.1 hj
        obtain ⟨v, hv⟩ := Option.ne_none_iff_exists'.1 hv
        exact hready ⟨j, v, hj, hv⟩
      obtain ⟨t, later, hexec, hkept, hqueue, hstays, hshape⟩ := exec_take_short (time := time) (s := heldLimitClosed q s) hs hq hk
        haoc hupass hspans hugather (heldLimitEntries_heldLimitClosed ((gatherLaw_iff s).1 hlaw))
        (hmissing.imp_left hufree.trans)
      refine ⟨t, n, later, hstart.trans hexec, hkept i _ hui (by nofun), hnewest, ?_, fun j hj hw' => ?_, fun _ => hstays, hshape⟩
      · rw [hqueue, hulat]
        exact List.append_assoc _ _ _
      · exact absurd ⟨j, w, hj, hw'⟩ hready

end Sys2Proof.Machine
end

section
/-! The take of a WRITE of two pieces (R140, R144). -/

namespace Sys2Proof.Machine

/-! ## Two pieces, one after the other -/

theorem two_pieces {q : Request} {p₁ p₂ : Span} (h : requestSpans q = [p₁, p₂]) (hlen : q.length.val ≤ 64) :
    p₂.line = p₁.line + 64 ∧ p₁.count < 64 ∧ p₂.count < 64 ∧ p₁.first + p₁.count ≤ 64 ∧ p₂.first + p₂.count ≤ 64 := by
  have hmod : requestAddress q % Config.lineBytes < 64 := Nat.mod_lt _ (by decide)
  unfold requestSpans at h
  dsimp only at h
  split at h
  · cases h
  · rename_i hlong
    have hline : Config.lineBytes = 64 := rfl
    rw [hline] at h hlong hmod
    cases h
    refine ⟨rfl, ?_, ?_, ?_, ?_⟩
    all_goals
      dsimp only
      omega

/-- Where a WRITE's pieces go in the table as it stands: into the GATHERING entry of the line, with room for an AOC WRITE, or into the
lowest FREE entry apart from `taken`. -/
def GoesApart (l : Lat) (aoc : Bool) (taken : Option (Fin 32)) (p : Span) (i : Fin 32) : Prop :=
  (gatheringOf l p.line = some i ∧ (aoc = true → ∀ e, l.entries.get i = some e → e.held.length < 4)) ∨
  (gatheringOf l p.line = none ∧ l.entries.get i = none ∧ taken ≠ some i ∧
    ∀ k : Fin 32, k < i → taken ≠ some k → (l.entries.get k).isSome = true)

theorem GoesApart.goesTo {s : State} {q : Request} {p : Span} {i : Fin 32} (h : GoesApart s.lat q.aoc none p i) :
    GoesTo s q p i := by
  obtain ⟨hgather, hroom⟩ | ⟨hgather, hi, -, hlt⟩ := h
  · exact goesTo_merge hgather hroom
  · exact goesTo_open hgather hi fun k hk => hlt k hk (by nofun)

/-- The places of pieces in different lines are different. -/
theorem GoesApart.ne {l : Lat} {aoc : Bool} {p₁ p₂ : Span} {i j : Fin 32} (h₁ : GoesApart l aoc none p₁ i)
    (h₂ : GoesApart l aoc (some i) p₂ j) (hline : p₁.line ≠ p₂.line) : i ≠ j := by
  rintro rfl
  obtain ⟨hgather₂, -⟩ | ⟨-, -, hne, -⟩ := h₂
  · obtain ⟨x, hx, -, hlx⟩ := gatheringOf_some hgather₂
    obtain ⟨hgather₁, -⟩ | ⟨-, hi, -, -⟩ := h₁
    · obtain ⟨y, hy, -, hly⟩ := gatheringOf_some hgather₁
      cases hx.symm.trans hy
      exact hline (hly.symm.trans hlx)
    · exact nomatch hx.symm.trans hi
  · exact hne rfl

/-- An entry placed on another line is not found on a line. -/
theorem gatheringOf_set_other {l : Lat} {i : Fin 32} {e : Entry} {line : Nat} {queue : List (Fin 32)} {mark : Option (Fin 32)}
    (hnew : e.line ≠ line) (hold : ∀ x, l.entries.get i = some x → x.line ≠ line) :
    gatheringOf { entries := l.entries.set i (some e), issueQueue := queue, evictMark := mark } line = gatheringOf l line := by
  refine gatheringOf_congr fun k => ?_
  by_cases hk : i = k
  · subst hk
    dsimp only
    rw [Table.get_set_self]
    cases hx : l.entries.get i with
    | none => simp [entryIs, hnew]
    | some x => simp [entryIs, beq_eq_false_iff_ne.2 hnew, beq_eq_false_iff_ne.2 (hold x hx)]
  · dsimp only
    rw [Table.get_set_ne _ hk]

/-- The second piece of a WRITE goes where it went before the first was placed. -/
theorem GoesApart.after {s t : State} {q : Request} {p₁ p₂ : Span} {i j : Fin 32} {e : Entry}
    (h₁ : GoesApart s.lat q.aoc none p₁ i) (h₂ : GoesApart s.lat q.aoc (some i) p₂ j) (hline : p₁.line ≠ p₂.line)
    (he : e.line = p₁.line) {queue : List (Fin 32)} {mark : Option (Fin 32)}
    (ht : t.lat = { entries := s.lat.entries.set i (some e), issueQueue := queue, evictMark := mark }) : GoesTo t q p₂ j := by
  have hij := h₁.ne h₂ hline
  have hold : ∀ x, s.lat.entries.get i = some x → x.line ≠ p₂.line := fun x hx => by
    obtain ⟨hgather₁, -⟩ | ⟨-, hi, -, -⟩ := h₁
    · obtain ⟨y, hy, -, hly⟩ := gatheringOf_some hgather₁
      cases hx.symm.trans hy
      rw [hly]
      exact hline
    · exact nomatch hx.symm.trans hi
  have hgather : gatheringOf t.lat p₂.line = gatheringOf s.lat p₂.line := by
    rw [ht]
    exact gatheringOf_set_other (he ▸ hline) hold
  have hj : t.lat.entries.get j = s.lat.entries.get j := by rw [ht]; exact Table.get_set_ne _ hij _
  obtain ⟨hgather₂, hroom⟩ | ⟨hgather₂, hjfree, -, hlt⟩ := h₂
  · exact goesTo_merge (hgather.trans hgather₂) fun haoc x hx => hroom haoc x (hj ▸ hx)
  · refine goesTo_open (hgather.trans hgather₂) (hj.trans hjfree) fun k hk => ?_
    rw [ht]
    by_cases hki : i = k
    · subst hki
      dsimp only
      rw [Table.get_set_self]
      rfl
    · dsimp only
      rw [Table.get_set_ne _ hki]
      exact hlt k hk fun h => hki (Option.some.inj h)

/-- A piece placed after another, as it is described from the table before both. -/
theorem PiecePlaced.before {s t : State} {q : Request} {w : Fin 16} {p₁ p₂ : Span} {moment : Nat} {i : Fin 32}
    {old : Option Entry} {e₁ e₂ : Entry} (h₂ : PiecePlaced t q w p₂ moment old e₂)
    (h₁ : PiecePlaced s q w p₁ moment (s.lat.entries.get i) e₁) {queue : List (Fin 32)} {mark : Option (Fin 32)}
    (ht : t.lat = { entries := s.lat.entries.set i (some e₁), issueQueue := queue, evictMark := mark }) (hmli : t.mli = s.mli) :
    PiecePlaced s q w p₂ moment old e₂ := by
  obtain ⟨hline, hcells, hwho, hheld, hbarrier, hfill, hmerge, hgathering, hclosed⟩ := h₂
  refine ⟨hline, hcells, hwho, hheld, hbarrier, hfill, hmerge, by rw [← hmli]; exact hgathering, fun hfull => ?_⟩
  obtain ⟨hstate, hdeadline, n, hn, hnewest⟩ := hclosed hfull
  refine ⟨hstate, hdeadline, n, hn, fun j x m hx hm => ?_⟩
  by_cases hj : i = j
  · subst hj
    have hget : t.lat.entries.get i = some e₁ := by rw [ht]; exact Table.get_set_self _ _ _
    cases hf₁ : cellsFull e₁.cells with
    | true =>
      obtain ⟨-, -, n₁, hn₁, hnewest₁⟩ := h₁.closed hf₁
      exact Nat.lt_trans (hnewest₁ i x m hx hm) (hnewest i e₁ n₁ hget hn₁)
    | false =>
      obtain ⟨-, hnumber, -⟩ := h₁.gathering hf₁
      rw [hx] at hnumber
      exact hnewest i e₁ m hget (hnumber.trans hm)
  · refine hnewest j x m ?_ hm
    rw [ht]
    exact (Table.get_set_ne _ hj _).trans hx

/-! ## The FREE entries they need -/

theorem freeEntries_two {l : Lat} {i j : Fin 32} (hij : i ≠ j) (hi : l.entries.get i = none) (hj : l.entries.get j = none) :
    2 ≤ freeEntries l := by
  have hsub : [i, j] ⊆ l.entries.indices Option.isNone := fun k hk => by
    rw [Table.mem_indices]
    obtain rfl | hk := List.mem_cons.1 hk
    · rw [hi]; rfl
    · rw [List.mem_singleton.1 hk, hj]; rfl
  exact (List.Nodup.subperm (by simpa using hij) hsub).length_le

theorem mergeTarget_goesApart {l : Lat} {aoc : Bool} {taken : Option (Fin 32)} {p : Span} {i : Fin 32}
    (h : GoesApart l aoc taken p i) : mergeTarget l aoc p = if (l.entries.get i).isSome then some i else none := by
  obtain ⟨hgather, hroom⟩ | ⟨hgather, hi, -, -⟩ := h
  · obtain ⟨e, he, -⟩ := gatheringOf_some hgather
    rw [mergeTarget_of_gathering hgather hroom, he]
    rfl
  · rw [mergeTarget_of_none hgather, hi]
    rfl

theorem heldLimit_goesApart {s : State} {aoc : Bool} {taken : Option (Fin 32)} {p : Span} {i : Fin 32}
    (h : GoesApart s.lat aoc taken p i) (haoc : aoc = true) : ∀ k, gatheringOf s.lat p.line = some k →
      entryIs (fun e => decide (4 ≤ e.held.length)) (s.lat.entries.get k) = false := fun k hk => by
  obtain ⟨hgather, hroom⟩ | ⟨hgather, -⟩ := h
  · cases hgather.symm.trans hk
    obtain ⟨e, he, -⟩ := gatheringOf_some hgather
    have hlt := hroom haoc e he
    simp [he, entryIs, hlt]
  · exact nomatch hgather.symm.trans hk

theorem hasEntries_apart {s : State} {q : Request} {p₁ p₂ : Span} {i j : Fin 32} (hspans : requestSpans q = [p₁, p₂])
    (hrule : ruleFor s.ord q = none) (h₁ : GoesApart s.lat q.aoc none p₁ i) (h₂ : GoesApart s.lat q.aoc (some i) p₂ j)
    (hline : p₁.line ≠ p₂.line) : HasEntries q s := by
  have hij := h₁.ne h₂ hline
  refine ⟨?_, ?_⟩
  · cases haoc : q.aoc with
    | false => exact heldLimitEntries_not_aoc haoc
    | true =>
      rw [heldLimitEntries_aoc haoc hrule, hspans]
      refine List.filter_eq_nil_iff.2 fun k hk => ?_
      obtain ⟨p, hp, hpk⟩ := List.mem_filterMap.1 hk
      rw [Bool.not_eq_true]
      obtain rfl | hp := List.mem_cons.1 hp
      · exact heldLimit_goesApart h₁ haoc k hpk
      · rw [List.mem_singleton.1 hp] at hpk
        exact heldLimit_goesApart h₂ haoc k hpk
  · have htargets : headTargets s q = [p₁, p₂].filterMap (mergeTarget s.lat q.aoc) := by
      rw [headTargets, hrule, hspans]
      rfl
    rw [entriesNeeded, htargets, hspans, List.filterMap_cons, List.filterMap_cons, mergeTarget_goesApart h₁,
      mergeTarget_goesApart h₂]
    cases hi : s.lat.entries.get i with
    | some e₁ =>
      cases hj : s.lat.entries.get j with
      | some e₂ => exact Nat.zero_le _
      | none => exact freeEntries_pos hj
    | none =>
      cases hj : s.lat.entries.get j with
      | some e₂ => exact freeEntries_pos hi
      | none => exact freeEntries_two hij hi hj

/-! ## The take of both -/

theorem mergesCounted_twice (a b : Option Entry) (u : Nu) : mergesCounted b (mergesCounted a u) =
    { u with counters := { u.counters with
      merges := countUp^[(if a.isSome then 1 else 0) + (if b.isSome then 1 else 0)] u.counters.merges } } := by
  cases a <;> cases b <;> rfl

/-- The take of a WRITE of two pieces that find their places. -/
theorem exec_take_pieces {s : State} {q : Request} {w : Fin 16} {p₁ p₂ : Span} {i j : Fin 32} {time : Nat} (hs : s.held = false)
    (hq : s.rqp.intake ++ s.rqp.link = [q]) (hk : q.kind = .write) (hpass : judge s q = .passes)
    (hrule : ruleFor s.ord q = none) (hspans : requestSpans q = [p₁, p₂])
    (hw : q.aoc = true → lowestFreeWrt s.rqp = some w) (h₁ : GoesApart s.lat q.aoc none p₁ i)
    (h₂ : GoesApart s.lat q.aoc (some i) p₂ j) :
    ∃ t e₁ e₂, exec (.take time) s = .next t ∧
      t.lat = { s.lat with
        entries := (s.lat.entries.set i (some e₁)).set j (some e₂),
        issueQueue := s.lat.issueQueue ++ (if cellsFull e₁.cells then [i] else []) ++
          (if cellsFull e₂.cells then [j] else []) } ∧
      PiecePlaced s q w p₁ (max s.now time) (s.lat.entries.get i) e₁ ∧
      PiecePlaced s q w p₂ (max s.now time) (s.lat.entries.get j) e₂ ∧
      (cellsFull e₁.cells = true → cellsFull e₂.cells = true →
        ∀ m n, e₁.closeNumber = some m → e₂.closeNumber = some n → m < n) ∧
      t.nu = { s.nu with counters := { s.nu.counters with
        merges := countUp^[[i, j].countP (fun k => (s.lat.entries.get k).isSome)] s.nu.counters.merges } } ∧
      t.rqp.intake ++ t.rqp.link = [] ∧
      t.rqp.tags = (if q.aoc then s.rqp.tags ++ [(q.requester, q.tag)] else s.rqp.tags) ∧
      t.rqp.wrt = (if q.aoc then
          s.rqp.wrt.set w (some { requester := q.requester, tag := q.tag, outstanding := 2, worst := .ok })
        else s.rqp.wrt) ∧
      t = { s with
        rqp := t.rqp, lat := t.lat, starvation := t.starvation, nu := t.nu, now := max s.now time,
        out := if q.aoc then s.out
          else { s.out with responses := s.out.responses ++
            [{ requester := q.requester, tag := q.tag, status := .ok, data := [] }] } } := by
  have hline : p₁.line ≠ p₂.line := by
    have hlines := requestSpans_lines q
    rw [hspans] at hlines
    exact fun h => (List.pairwise_cons.1 hlines).1 p₂ (by simp) h.symm
  have hij := h₁.ne h₂ hline
  obtain ⟨a, ha⟩ : ∃ a, a = writeBase q w (headAlone time q s) := ⟨_, rfl⟩
  obtain ⟨hlat, hnu, hord, hmli, hnow⟩ := writeBase_same q w (headAlone time q s)
  rw [← ha] at hlat hnu hord hmli hnow
  obtain ⟨e₁, hplace₁, hplaced₁⟩ := placePiece_placed (h₁.goesTo.congr (t := a) hlat) w
  obtain ⟨b, hb⟩ : ∃ b, b = placePiece q (recordOf q w) a p₁ := ⟨_, rfl⟩
  rw [hlat] at hplaced₁
  rw [hnow] at hplaced₁
  replace hplaced₁ : PiecePlaced s q w p₁ (max s.now time) (s.lat.entries.get i) e₁ := hplaced₁.congr hlat.symm hmli.symm
  rw [← hb] at hplace₁
  have hblat : b.lat = { s.lat with
      entries := s.lat.entries.set i (some e₁),
      issueQueue := s.lat.issueQueue ++ (if cellsFull e₁.cells then [i] else []) } := by
    rw [hplace₁, hlat]
    rfl
  have hbj : b.lat.entries.get j = s.lat.entries.get j := by rw [hblat]; exact Table.get_set_ne _ hij _
  obtain ⟨e₂, hplace₂, hplaced₂⟩ := placePiece_placed (h₁.after h₂ hline hplaced₁.line hblat) w
  have hbnow : b.now = max s.now time := by rw [hplace₁]; exact hnow
  have hbmli : b.mli = s.mli := by rw [hplace₁]; exact hmli
  rw [hbj, hbnow] at hplaced₂
  have hwrite : placeWrite q (recordOf q w) a = placePiece q (recordOf q w) b p₂ := by
    rw [placeWrite_no_rule (by rw [hord]; exact hrule), hspans, hb]
    rfl
  have hmark : b.lat.evictMark = s.lat.evictMark := by rw [hblat]
  have hplace : placeWrite q (recordOf q w) (writeBase q w (headAlone time q s)) =
      { writeBase q w (headAlone time q s) with
        lat := { s.lat with
          entries := (s.lat.entries.set i (some e₁)).set j (some e₂),
          issueQueue := s.lat.issueQueue ++ (if cellsFull e₁.cells then [i] else []) ++
            (if cellsFull e₂.cells then [j] else []) },
        nu := mergesCounted (s.lat.entries.get j) (mergesCounted (s.lat.entries.get i) s.nu) } := by
    rw [← ha, hwrite, hplace₂, hbj, hblat, hplace₁, hlat, hnu]
    rfl
  obtain ⟨t, hexec, htlat, htnu, hnil, htags, hwrt, hshape⟩ := exec_take_write hs hq hk hpass
    (hasEntries_apart (s := headAlone time q s) hspans hrule h₁ h₂ hline) hw hplace
  rw [hspans] at hwrt
  refine ⟨t, e₁, e₂, hexec, htlat, hplaced₁, hplaced₂.before hplaced₁ hblat hbmli, fun _ hf₂ m n hm hn => ?_, ?_, hnil, htags,
    hwrt, hshape⟩
  · obtain ⟨-, -, n', hn', hnewest⟩ := hplaced₂.closed hf₂
    cases hn'.symm.trans hn
    exact hnewest i e₁ m (by rw [hblat]; exact Table.get_set_self _ _ _) hm
  · rw [htnu, mergesCounted_twice, List.countP_cons, List.countP_singleton, Nat.add_comm]

/-! ## The obligation -/

theorem goesApart_first {l : Lat} {aoc : Bool} {p : Span} {i : Fin 32}
    (h : gatheringOf l p.line = some i ∨ (gatheringOf l p.line = none ∧ l.entries.get i = none ∧
      ∀ k : Fin 32, k < i → (l.entries.get k).isSome = true))
    (hroom : aoc = true → ∀ e, l.entries.get i = some e → e.held.length < 4) : GoesApart l aoc none p i := by
  obtain hgather | ⟨hgather, hi, hlt⟩ := h
  · exact .inl ⟨hgather, hroom⟩
  · exact .inr ⟨hgather, hi, (nomatch ·), fun k hk _ => hlt k hk⟩

theorem goesApart_second {l : Lat} {aoc : Bool} {p : Span} {i j : Fin 32}
    (h : gatheringOf l p.line = some j ∨ (gatheringOf l p.line = none ∧ l.entries.get j = none ∧ j ≠ i ∧
      ∀ k : Fin 32, k < j → k ≠ i → (l.entries.get k).isSome = true))
    (hroom : aoc = true → ∀ e, l.entries.get j = some e → e.held.length < 4) : GoesApart l aoc (some i) p j := by
  obtain hgather | ⟨hgather, hj, hne, hlt⟩ := h
  · exact .inl ⟨hgather, hroom⟩
  · exact .inr ⟨hgather, hj, fun h => hne (Option.some.inj h).symm, fun k hk hki => hlt k hk fun h => hki (h ▸ rfl)⟩

/-- The entry that one of two pieces opens: less than a whole line, it goes on gathering. -/
theorem opened_short {s : State} {q : Request} {w : Fin 16} {p : Span} {moment : Nat} {e : Entry}
    (h : PiecePlaced s q w p moment none e) (hp : p.first + p.count ≤ 64) (hcount : p.count < 64) :
    cellsFull e.cells = false ∧ e.state = .gathering ∧ e.held = (if q.aoc then [w] else []) ∧ e.barrier = none ∧
      e.lastMerge = moment ∧ ∀ r, e.contributors.has r = decide (r = q.requester) := by
  have hfull : cellsFull e.cells = false := Bool.eq_false_iff.2 fun hf => by
    have := (opened_full_iff h hp).1 hf
    omega
  exact ⟨hfull, (h.gathering hfull).1, h.held.trans (List.nil_append _), h.barrier, h.lastMerge,
    fun r => (h.contributors r).trans (Bool.false_or _)⟩

/-- Settles O10. -/
theorem twoPieceWriteOpensTwoEntries : Obligations.TwoPieceWriteOpensTwoEntries := by
  refine ⟨?_, ?_, ?_⟩
  · intro time q p₁ p₂ i j w s hs hq hk hpass hrule hspans hg₁ hg₂ hi hj hij hlt hw
    obtain ⟨hline, hc₁, hc₂, hp₁, hp₂⟩ := two_pieces hspans (judge_passes_length hpass (.inr hk)).2
    obtain ⟨t, e₁, e₂, hexec, hlat, hplaced₁, hplaced₂, -, hnu, hnil, htags, hwrt, hshape⟩ := exec_take_pieces (time := time) hs hq hk
      hpass hrule hspans hw
      (goesApart_first (.inr ⟨hg₁, hi, fun k hk => hlt k (hk.trans hij) hk.ne⟩) fun _ e he => nomatch hi.symm.trans he)
      (goesApart_second (.inr ⟨hg₂, hj, hij.ne', hlt⟩) fun _ e he => nomatch hj.symm.trans he)
    rw [hi] at hplaced₁
    rw [hj] at hplaced₂
    obtain ⟨hf₁, hopened₁⟩ := opened_short hplaced₁ hp₁ hc₁
    obtain ⟨hf₂, hopened₂⟩ := opened_short hplaced₂ hp₂ hc₂
    refine ⟨t, e₁, e₂, hexec, ?_, hplaced₁.line, hplaced₂.line.trans hline, fun k => hplaced₁.cells k, fun k => hplaced₂.cells k,
      ?_, hnil, htags, hwrt, ?_⟩
    · rw [hlat, hf₁, hf₂]
      simp
    · rintro e he
      obtain rfl | he := List.mem_cons.1 he
      · exact hopened₁
      · rw [List.mem_singleton.1 he]; exact hopened₂
    · have hsame : t.nu = s.nu := by
        rw [hnu]
        simp [hi, hj]
      rw [hsame] at hshape
      exact hshape
  · intro time q p₁ p₂ i j w s hs hq hk hpass hrule hspans h₁ h₂ haoc
    exact exec_take_pieces hs hq hk hpass hrule hspans (fun h => (haoc h).1)
      (goesApart_first h₁ fun h => (haoc h).2 i (by simp)) (goesApart_second h₂ fun h => (haoc h).2 j (by simp))
  · intro time q p₁ p₂ full s hs hlaw hq hk haoc hpass hrule hspans hfull
    have hsame : heldLimitEntries s q = full := by rw [heldLimitEntries_aoc haoc hrule, hspans, hfull]
    have hturn := heldLimitClosed_inTurn q s
    obtain ⟨hqueue, hmark, hkept⟩ := heldLimitClosed_law q s
    rw [hsame] at hturn hqueue hkept
    refine ⟨heldLimitClosed q s, exec_take_heldLimitClosed hs hlaw hq hk hpass time, rfl, hqueue, hmark, hkept, hturn.closed,
      fun k l e f m n hkl => ?_⟩
    have hascending := hturn.ascending
    rw [hkl] at hascending
    exact (List.pairwise_cons.1 hascending).1 l (by simp) e f m n

end Sys2Proof.Machine
end

section
/-! The heads that stay for want of a read context, a WRT record or FREE entries, and the entry that is evicted for one (R4, R15,
R16, R141). -/

namespace Sys2Proof.Machine

/-! ## Counting -/

theorem freeEntries_eq (l : Lat) : freeEntries l = (List.finRange 32).countP (fun i => (l.entries.get i).isNone) :=
  List.countP_eq_length_filter.symm

theorem freeEntries_congr {l l' : Lat} (h : ∀ i, (l'.entries.get i).isSome = (l.entries.get i).isSome) :
    freeEntries l' = freeEntries l := by
  have hnone : ∀ i, (l'.entries.get i).isNone = (l.entries.get i).isNone := fun i => by
    rw [← Option.not_isSome, ← Option.not_isSome, h i]
  simp only [freeEntries_eq, hnone]

theorem length_filterMap_le {α β γ : Type} {f : α → Option β} {g : α → Option γ} {l : List α}
    (h : ∀ a ∈ l, g a = none → f a = none) : (l.filterMap f).length ≤ (l.filterMap g).length := by
  rw [List.length_filterMap_eq_countP, List.length_filterMap_eq_countP]
  refine List.countP_mono_left fun a ha hf => ?_
  rw [Option.isSome_iff_ne_none] at hf ⊢
  exact fun hg => hf (h a ha hg)

/-! ## The merge targets -/

/-- The GATHERING entries of a request's lines; a write under a release rule has none (R4, R53). -/
def lineTargets (s : State) (q : Request) : List (Fin 32) :=
  if (ruleFor s.ord q).isSome then [] else (requestSpans q).filterMap (fun p => gatheringOf s.lat p.line)

theorem headTargets_length_le {s t : State} {q : Request} (hord : t.ord = s.ord) (hw : GatherWithin s.lat t.lat) :
    (headTargets t q).length ≤ (lineTargets s q).length := by
  unfold headTargets lineTargets
  rw [hord]
  split
  · exact le_rfl
  · exact length_filterMap_le fun p _ hp => mergeTarget_of_none (gatheringOf_none_within hw hp) q.aoc

theorem heldLimitEntries_lineTargets {s : State} {q : Request} (haoc : q.aoc = true) : heldLimitEntries s q =
    (lineTargets s q).filter (fun i => entryIs (fun e => decide (4 ≤ e.held.length)) (s.lat.entries.get i)) := by
  unfold lineTargets
  cases hrule : ruleFor s.ord q with
  | none => exact heldLimitEntries_aoc haoc hrule
  | some k => exact heldLimitEntries_rule (by rw [hrule]; rfl)

theorem headTargets_of_room {s : State} {q : Request} (h : heldLimitEntries s q = []) : headTargets s q = lineTargets s q := by
  unfold headTargets lineTargets
  split
  · rfl
  · rename_i hrule
    refine List.filterMap_congr fun p hp => ?_
    cases hg : gatheringOf s.lat p.line with
    | none => exact mergeTarget_of_none hg q.aoc
    | some i =>
      refine mergeTarget_of_gathering hg fun haoc e he => ?_
      rw [heldLimitEntries_aoc haoc (Option.not_isSome_iff_eq_none.1 hrule)] at h
      have hfull := List.filter_eq_nil_iff.1 h i (List.mem_filterMap.2 ⟨p, hp, hg⟩)
      rw [he] at hfull
      by_contra hlen
      exact hfull (entryIs_iff.2 ⟨e, rfl, decide_eq_true (Nat.not_lt.1 hlen)⟩)

/-! ## The victim -/

/-- One entry goes before another for an eviction: by last merge time, then by index (R15). -/
def GoesBefore (l : Lat) (i j : Fin 32) : Prop :=
  ∀ e x, l.entries.get i = some e → l.entries.get j = some x →
    e.lastMerge < x.lastMerge ∨ (e.lastMerge = x.lastMerge ∧ i ≤ j)

theorem olderMerge_stays {l : Lat} {i j : Fin 32} (h : GoesBefore l i j) : olderMerge l (some i) j = some i := by
  unfold olderMerge
  dsimp only
  split
  · rename_i x y hx hy
    have := h x y hx hy
    exact if_neg (by omega)
  · rfl

theorem olderMerge_passes {l : Lat} {i j : Fin 32} {e x : Entry} (he : l.entries.get i = some e) (hx : l.entries.get j = some x)
    (hji : j < i) (h : GoesBefore l i j) : olderMerge l (some j) i = some i := by
  unfold olderMerge
  dsimp only
  rw [hx, he]
  have := h e x he hx
  exact if_pos (by omega)

theorem olderMerge_mem {l : Lat} {b : Option (Fin 32)} {i k : Fin 32} (h : olderMerge l b i = some k) : k = i ∨ b = some k := by
  unfold olderMerge at h
  split at h
  · exact .inl (Option.some.inj h).symm
  · split at h
    · split at h
      · exact .inl (Option.some.inj h).symm
      · exact .inr h
    · exact .inr h

theorem foldl_olderMerge_mem {l : Lat} {list : List (Fin 32)} {b : Option (Fin 32)} {k : Fin 32}
    (h : list.foldl (olderMerge l) b = some k) : k ∈ list ∨ b = some k := by
  induction list generalizing b with
  | nil => exact .inr h
  | cons i list ih =>
    obtain hmem | hb := ih h
    · exact .inl (List.mem_cons_of_mem _ hmem)
    · exact (olderMerge_mem hb).imp_left fun hk => by rw [hk]; exact List.mem_cons_self

theorem foldl_olderMerge_stays {l : Lat} {list : List (Fin 32)} {i : Fin 32} (h : ∀ j ∈ list, GoesBefore l i j) :
    list.foldl (olderMerge l) (some i) = some i := by
  induction list with
  | nil => rfl
  | cons j list ih =>
    rw [List.foldl_cons, olderMerge_stays (h j List.mem_cons_self)]
    exact ih fun k hk => h k (List.mem_cons_of_mem _ hk)

/-- The one that goes before all others of an ascending list is the victim. -/
theorem foldl_olderMerge_first {l : Lat} {list : List (Fin 32)} {i : Fin 32} {e : Entry} (hi : i ∈ list)
    (he : l.entries.get i = some e) (hsome : ∀ j ∈ list, (l.entries.get j).isSome = true) (hasc : list.Pairwise (· < ·))
    (h : ∀ j ∈ list, GoesBefore l i j) : list.foldl (olderMerge l) none = some i := by
  obtain ⟨before, after, rfl⟩ := List.append_of_mem hi
  rw [List.foldl_append, List.foldl_cons]
  have hstep : olderMerge l (before.foldl (olderMerge l) none) i = some i := by
    cases hb : before.foldl (olderMerge l) none with
    | none => rfl
    | some b =>
      obtain hmem | hnone := foldl_olderMerge_mem hb
      · obtain ⟨x, hx⟩ := Option.isSome_iff_exists.1 (hsome b (List.mem_append_left _ hmem))
        exact olderMerge_passes he hx ((List.pairwise_append.1 hasc).2.2 b hmem i List.mem_cons_self)
          (h b (List.mem_append_left _ hmem))
      · cases hnone
  rw [hstep]
  exact foldl_olderMerge_stays fun j hj => h j (List.mem_append_right _ (List.mem_cons_of_mem _ hj))

/-- The candidates for an eviction. -/
theorem mem_candidates {s : State} {q : Request} {j : Fin 32} :
    j ∈ (s.lat.entries.indices (entryIs isGathering)).filter (fun i => !(headTargets s q).contains i) ↔
      (∃ x, s.lat.entries.get j = some x ∧ x.state = .gathering) ∧ j ∉ headTargets s q := by
  rw [List.mem_filter, Table.mem_indices, entryIs_iff]
  simp [isGathering_iff]

theorem victim_none {s : State} {q : Request}
    (h : ∀ i e, s.lat.entries.get i = some e → e.state = .gathering → i ∈ headTargets s q) : victim s q = none := by
  cases hv : victim s q with
  | none => rfl
  | some i =>
    obtain hmem | hnone := foldl_olderMerge_mem hv
    · obtain ⟨⟨e, he, hg⟩, hnot⟩ := mem_candidates.1 hmem
      exact absurd (h i e he hg) hnot
    · cases hnone

theorem victim_first {s : State} {q : Request} {i : Fin 32} {e : Entry} (he : s.lat.entries.get i = some e)
    (hg : e.state = .gathering) (hi : i ∉ headTargets s q)
    (h : ∀ j x, s.lat.entries.get j = some x → x.state = .gathering → j ∉ headTargets s q →
      e.lastMerge < x.lastMerge ∨ (e.lastMerge = x.lastMerge ∧ i ≤ j)) : victim s q = some i := by
  refine foldl_olderMerge_first (mem_candidates.2 ⟨⟨e, he, hg⟩, hi⟩) he (fun j hj => ?_) ?_ fun j hj e' x he' hx => ?_
  · obtain ⟨⟨x, hx, -⟩, -⟩ := mem_candidates.1 hj
    rw [hx]
    rfl
  · exact ((List.sortedLT_finRange 32).pairwise.filter _).filter _
  · obtain ⟨⟨y, hy, hgy⟩, hnot⟩ := mem_candidates.1 hj
    cases he.symm.trans he'
    cases hx.symm.trans hy
    exact h j x hx hgy hnot

theorem closeIn_evict {i : Fin 32} {l : Lat} {e : Entry} (he : l.entries.get i = some e) (hg : e.state = .gathering) :
    closeIn .evict i l = {
      entries := l.entries.set i
        (some { e with state := .closed, closeNumber := some (newCloseNumber l), deadline := none }),
      issueQueue := l.issueQueue ++ [i], evictMark := some i } := by
  rw [closeIn, he]
  dsimp only
  rw [if_pos ((isGathering_iff e).2 hg), if_pos rfl]

/-! ## A WRITE short of FREE entries -/

theorem entriesNeeded_of_room {s : State} {q : Request} (h : heldLimitEntries s q = []) :
    entriesNeeded s q = (requestSpans q).length - (lineTargets s q).length := by
  rw [entriesNeeded, headTargets_of_room h]

theorem evictFor_marked {q : Request} {s : State} (h : s.lat.evictMark.isSome = true) : (evictFor q s).lat = s.lat := by
  rw [evictFor_lat, if_neg]
  simp [Option.isNone_eq_false_iff.2 h]

theorem evictFor_no_victim {q : Request} {s : State} (h : victim s q = none) : (evictFor q s).lat = s.lat := by
  rw [evictFor_lat, h]
  split <;> rfl

theorem evictFor_victim {q : Request} {s : State} {i : Fin 32} (hshort : freeEntries s.lat < entriesNeeded s q)
    (hmark : s.lat.evictMark = none) (hv : victim s q = some i) : (evictFor q s).lat = closeIn .evict i s.lat := by
  rw [evictFor_lat, hv, if_pos]
  · rfl
  · simp [hshort, hmark]

/-- No eviction gives a WRITE its FREE entries at once (R15). -/
theorem takeServed_short {q : Request} {s : State} (hk : q.kind = .write)
    (hshort : (lineTargets s q).length + freeEntries s.lat < (requestSpans q).length) : takeServed q (evictFor q s) = none := by
  refine takeServed_write_none hk (.inl ?_)
  have hsame : freeEntries (evictFor q s).lat = freeEntries s.lat := freeEntries_congr (evictFor_isSome q s)
  have hle : (headTargets (evictFor q s) q).length ≤ (lineTargets s q).length :=
    headTargets_length_le (by rw [evictFor_only]) (gatherWithin_closes.evictFor q s)
  rw [hsame, entriesNeeded]
  omega

theorem closedFor_isSome {q : Request} {s : State} (i : Fin 32) :
    ((closedFor q s).lat.entries.get i).isSome = (s.lat.entries.get i).isSome := by
  unfold closedFor
  split
  · exact (evictFor_isSome q (heldLimitClosed q s) i).trans (heldLimitClosed_isSome q s i)
  · rfl

/-! ## The obligation -/

/-- A READ without a FREE context. -/
theorem takeServed_read_none {q : Request} {s : State} (hk : q.kind = .read)
    (h : ∀ c, (s.rdp.contexts.get c).isSome = true) : takeServed q s = none := by
  have hnone : lowestFreeContext s.rdp = none := List.find?_eq_none.2 fun c _ => by
    simpa [Option.isSome_iff_ne_none] using h c
  unfold takeServed
  rw [hk]
  dsimp only
  rw [hnone]

theorem lowestFreeWrt_none {u : Rqp} (h : ∀ w, (u.wrt.get w).isSome = true) : lowestFreeWrt u = none :=
  List.find?_eq_none.2 fun w _ => by simpa [Option.isSome_iff_ne_none] using h w

/-- Settles O11. -/
theorem headWithoutResourcesWaits : Obligations.HeadWithoutResourcesWaits := by
  intro time q rest targets full s hs hq hpass htargets hfull
  replace htargets : targets = lineTargets s q := htargets
  refine ⟨fun hk hcontexts => ?_, fun hk haoc hrecords => ?_, fun hk hroom hshort => ?_, fun hlaw hk haoc => ?_⟩
  · have hclosed := closedFor_not_write (q := q) (by rw [hk]; nofun) (headFound time s)
    obtain ⟨t, hexec, hstream, htags, hwrt, hlat, hshape⟩ := exec_take_waits hs hq hpass
      (by rw [hclosed]; exact takeServed_read_none hk hcontexts)
    rw [hclosed] at hlat
    refine ⟨t, hexec, hstream, htags, hwrt, ?_⟩
    rw [hlat] at hshape
    exact hshape
  · have hrqp : (closedFor q (headFound time s)).rqp = (headFound time s).rqp := by simp
    obtain ⟨t, hexec, hstream, htags, hwrt, hlat, hshape⟩ := exec_take_waits hs hq hpass
      (takeServed_write_none hk (.inr ⟨haoc, by rw [hrqp]; exact lowestFreeWrt_none hrecords⟩))
    refine ⟨t, hexec, hstream, htags, hwrt, fun i => ?_, fun hnil henough => ?_, hshape⟩
    · rw [hlat]
      exact closedFor_isSome i
    · have hroom : heldLimitEntries s q = [] := by rw [heldLimitEntries_lineTargets haoc, ← htargets, ← hfull, hnil]
      rw [← freeEntries_eq, htargets] at henough
      have hentries : HasEntries q s := ⟨hroom, by
        rw [entriesNeeded_of_room hroom]
        exact Nat.sub_le_iff_le_add'.2 henough⟩
      have hclosed : closedFor q (headFound time s) = headFound time s :=
        closedFor_of_entries (s := headFound time s) ⟨hentries.room, hentries.free⟩
      rw [hlat, hclosed]
      rfl
  · have hheld : heldLimitEntries s q = [] := by
      cases haoc : q.aoc with
      | false => exact heldLimitEntries_not_aoc haoc
      | true => rw [heldLimitEntries_lineTargets haoc, ← htargets, ← hfull, hroom haoc]
    have hclosed := closedFor_evicts (s := headFound time s) hk hheld
    rw [← freeEntries_eq, htargets] at hshort
    have hneeds : freeEntries s.lat < entriesNeeded s q := by
      rw [entriesNeeded_of_room hheld]
      omega
    obtain ⟨t, hexec, hstream, htags, hwrt, hlat, hshape⟩ := exec_take_waits hs hq hpass
      (by rw [hclosed]; exact takeServed_short (s := headFound time s) hk hshort)
    rw [hclosed] at hlat
    have hsame : headTargets s q = targets := (headTargets_of_room hheld).trans htargets.symm
    refine ⟨t, hexec, hstream, htags, hwrt, hshape, fun hmark => ?_, fun hnone => ?_, fun i e hmark he hg hi hfirst => ?_⟩
    · exact hlat.trans (evictFor_marked (s := headFound time s) hmark)
    · exact hlat.trans (evictFor_no_victim (s := headFound time s) (victim_none (s := s) (by rw [hsame]; exact hnone)))
    · refine ⟨newCloseNumber s.lat, ?_, fun j x m hx hm => lt_newCloseNumber hx hm⟩
      rw [hlat, evictFor_victim (s := headFound time s) hneeds hmark
        (victim_first (s := s) he hg (by rw [hsame]; exact hi) (by rw [hsame]; exact hfirst))]
      exact closeIn_evict he hg
  · have hsame : heldLimitEntries s q = full := by rw [heldLimitEntries_lineTargets haoc, ← htargets, ← hfull]
    have hturn := heldLimitClosed_inTurn q s
    obtain ⟨hqueue, hmark, hkept⟩ := heldLimitClosed_law q s
    rw [hsame] at hturn hqueue hkept
    exact ⟨heldLimitClosed q s, exec_take_heldLimitClosed hs hlaw hq hk hpass time, rfl, hturn, hqueue, hmark, hkept⟩

end Sys2Proof.Machine
end

section
/-! The release take: the closes of the WRITE's lines and of the rule's scope, and the barrier entries behind them (R54 to R58). -/

namespace Sys2Proof.Machine

/-! ## The closes of the WRITE's own lines -/

theorem closeEach_append (cause : CloseCause) (a b : List (Fin 32)) (l : Lat) :
    closeEach cause (a ++ b) l = closeEach cause b (closeEach cause a l) := List.foldl_append

/-- The close of an entry of one line leaves the GATHERING entry of another as it is. -/
theorem gatheringOf_closeIn {cause : CloseCause} {i : Fin 32} {l : Lat} {p p' : Nat} (hi : gatheringOf l p = some i)
    (hne : p' ≠ p) : gatheringOf (closeIn cause i l) p' = gatheringOf l p' := by
  obtain ⟨e, he, hg, hline⟩ := gatheringOf_some hi
  refine gatheringOf_congr fun k => ?_
  obtain hk | ⟨rfl, x, n, hx, -, hk⟩ := closeIn_get cause i k l
  · rw [hk]
  · cases he.symm.trans hx
    have hother : (e.line == p') = false := beq_eq_false_iff_ne.2 fun h => hne (h.symm.trans hline)
    rw [hk, he]
    simp [entryIs, hother]

theorem releaseLines_lat (spans : List Span) (s : State) (hlines : spans.Pairwise (fun p p' => p'.line ≠ p.line)) :
    (spans.foldl (fun s p => match gatheringOf s.lat p.line with
      | some i => closeEntry .release i s
      | none => s) s).lat = closeEach .release (spans.filterMap (fun p => gatheringOf s.lat p.line)) s.lat := by
  induction spans generalizing s with
  | nil => rfl
  | cons p rest ih =>
    obtain ⟨hp, hrest⟩ := List.pairwise_cons.1 hlines
    rw [List.foldl_cons, ih _ hrest, List.filterMap_cons]
    cases hi : gatheringOf s.lat p.line with
    | none => rfl
    | some i =>
      have hsame : rest.filterMap (fun p' => gatheringOf (closeEntry .release i s).lat p'.line) =
          rest.filterMap (fun p' => gatheringOf s.lat p'.line) :=
        List.filterMap_congr fun p' hp' => gatheringOf_closeIn hi (hp p' hp')
      dsimp only
      rw [hsame]
      rfl

theorem releaseOwnLines_lat (q : Request) (s : State) : (releaseOwnLines q s).lat =
    closeEach .release ((requestSpans q).filterMap (fun p => gatheringOf s.lat p.line)) s.lat := by
  rw [← releaseLines_lat _ _ (requestSpans_lines q)]
  rfl

/-! ## The closes of the scope -/

/-- The entries of a release rule's scope that gather, apart from those closed already. -/
def scopeEntries (l : Lat) (p : Entry → Bool) (own : List (Fin 32)) : List (Fin 32) :=
  (List.finRange 32).filter (fun j => entryIs (fun x => isGathering x && p x) (l.entries.get j) && !own.contains j)

theorem mem_scopeEntries {l : Lat} {p : Entry → Bool} {own : List (Fin 32)} {j : Fin 32} : j ∈ scopeEntries l p own ↔
    (∃ x, l.entries.get j = some x ∧ x.state = .gathering ∧ p x = true) ∧ j ∉ own := by
  unfold scopeEntries
  rw [List.mem_filter, Bool.and_eq_true, entryIs_iff]
  simp [isGathering_iff]

/-- The closes of the scope after those of the own lines. -/
theorem closeWhere_after (cause : CloseCause) (p : Entry → Bool) (own : List (Fin 32)) {l : Lat} {s : State}
    (hs : s.lat = closeEach cause own l) :
    (closeWhere cause p s).lat = closeEach cause (own ++ scopeEntries l p own) l := by
  have hnamed : s.lat.entries.indices (entryIs (fun e => isGathering e && p e)) = scopeEntries l p own := by
    refine List.filter_congr fun j _ => ?_
    rw [hs]
    obtain h | ⟨hj, e, n, he, -, h⟩ := closeEach_get cause own j l
    · rw [h]
      by_cases hj : j ∈ own
      · have hclosed := closeEach_closes cause own hj l
        rw [h] at hclosed
        cases hx : l.entries.get j with
        | none => rfl
        | some x =>
          rw [hx] at hclosed
          have hgather : isGathering x = false := hclosed
          simp [entryIs, hgather]
      · simp [hj]
    · rw [h]
      simp [entryIs, isGathering, hj]
  rw [closeEach_append, ← hs, ← hnamed]
  rfl

/-! ## The barrier entries -/

/-- A barrier entry of a release WRITE, as it is opened (R18, R57). -/
structure BarrierEntry (q : Request) (w : Option (Fin 16)) (b : Barrier) (p : Span) (e : Entry) : Prop where
  state : e.state = .closed
  line : e.line = p.line
  deadline : e.deadline = none
  fill : e.fill = none
  barrier : e.barrier = some b
  held : e.held = heldOf w
  contributors : ∀ r, e.contributors.has r = decide (r = q.requester)
  cells : ∀ n, e.cells.get n = if spanHolds p n then .written (spanByte p q.data n) else .unset

theorem releaseEntry_barrier (s : State) (q : Request) (w : Option (Fin 16)) (p : Span) (b : Barrier) :
    BarrierEntry q w b p (releaseEntry s q w p b) where
  state := rfl
  line := rfl
  deadline := rfl
  fill := rfl
  barrier := rfl
  held := rfl
  contributors r := (FinSet.has_insert _ _ _).trans (by simp [eq_comm])
  cells n := (Table.get_ofFn _ n).trans (by rw [blankCells, Table.get_fill])

/-- The barrier entries of a release WRITE's pieces stand at the tail of the Issue Queue in their order, and all else is as it
was. -/
structure OpensInOrder (q : Request) (w : Option (Fin 16)) (b : Barrier) (spans : List Span) (free : List (Fin 32)) (l l' : Lat) :
    Prop where
  queue : l'.issueQueue = l.issueQueue ++ free
  mark : l'.evictMark = l.evictMark
  kept : ∀ j, j ∉ free → l'.entries.get j = l.entries.get j
  opened : ∀ x ∈ free.zip spans, ∃ e n, l'.entries.get x.1 = some e ∧ BarrierEntry q w b x.2 e ∧ e.closeNumber = some n ∧
    newCloseNumber l ≤ n
  ascending : free.Pairwise (fun i j => ∀ e f m n, l'.entries.get i = some e → l'.entries.get j = some f →
    e.closeNumber = some m → f.closeNumber = some n → m < n)

/-- The indices of the FREE entries once the lowest of them is taken. -/
theorem freeIndices_set {l : Lat} {i : Fin 32} {tail : List (Fin 32)} {e : Entry}
    (h : l.entries.indices Option.isNone = i :: tail) : (l.entries.set i (some e)).indices Option.isNone = tail := by
  have hnodup : (i :: tail).Nodup := h ▸ Table.indices_nodup _ _
  have hfilter : (l.entries.set i (some e)).indices Option.isNone = (i :: tail).filter (fun j => j != i) := by
    rw [← h, Table.indices, Table.indices, List.filter_filter]
    refine List.filter_congr fun j _ => ?_
    by_cases hj : i = j
    · subst hj
      rw [Table.get_set_self]
      simp
    · rw [Table.get_set_ne _ hj]
      simp [Ne.symm hj]
  rw [hfilter, List.filter_cons_of_neg (by simp), List.filter_eq_self]
  exact fun j hj => bne_iff_ne.2 fun hji => (List.nodup_cons.1 hnodup).1 (hji ▸ hj)

theorem openRelease_found {q : Request} {w : Option (Fin 16)} {b : Barrier} {s : State} {p : Span} {i : Fin 32}
    {tail : List (Fin 32)} (h : s.lat.entries.indices Option.isNone = i :: tail) :
    openRelease q w b s p = { s with lat := { s.lat with
      entries := s.lat.entries.set i (some (releaseEntry s q w p b)), issueQueue := s.lat.issueQueue ++ [i] } } := by
  have hlowest : lowestFreeEntry s.lat = some i := by
    have hhead := congrArg List.head? h
    rw [Table.indices, List.head?_filter] at hhead
    exact hhead
  unfold openRelease
  rw [hlowest]

theorem OpensInOrder.newest {q : Request} {w : Option (Fin 16)} {b : Barrier} {spans : List Span} {free : List (Fin 32)} {l l' : Lat}
    (h : OpensInOrder q w b spans free l l') (hlen : free.length = spans.length) {j : Fin 32} (hj : j ∈ free) {f : Entry}
    (hf : l'.entries.get j = some f) : f.state = .closed ∧ ∀ n, f.closeNumber = some n → newCloseNumber l ≤ n := by
  rw [← List.map_fst_zip hlen.le] at hj
  obtain ⟨x, hx, rfl⟩ := List.mem_map.1 hj
  obtain ⟨e, m, he, hbarrier, hm, hle⟩ := h.opened x hx
  cases he.symm.trans hf
  refine ⟨hbarrier.state, fun n hn => ?_⟩
  cases hm.symm.trans hn
  exact hle

theorem openReleaseAll_inOrder (q : Request) (w : Option (Fin 16)) (b : Barrier) (spans : List Span) (s : State)
    {free : List (Fin 32)} (hfree : free = (s.lat.entries.indices Option.isNone).take spans.length)
    (hlen : free.length = spans.length) :
    OpensInOrder q w b spans free s.lat (spans.foldl (openRelease q w b) s).lat := by
  induction spans generalizing s free with
  | nil =>
    rw [List.length_eq_zero_iff.1 hlen]
    exact ⟨(List.append_nil _).symm, rfl, fun _ _ => rfl, by simp, List.Pairwise.nil⟩
  | cons p rest ih =>
    cases hindices : s.lat.entries.indices Option.isNone with
    | nil => rw [hfree, hindices] at hlen; cases hlen
    | cons i tail =>
      rw [hindices, List.length_cons, List.take_succ_cons] at hfree
      rw [hfree] at hlen ⊢
      have hi : i ∉ tail := (List.nodup_cons.1 (hindices ▸ Table.indices_nodup _ _ : (i :: tail).Nodup)).1
      obtain ⟨u, hu⟩ : ∃ u, u = openRelease q w b s p := ⟨_, rfl⟩
      have hfound := openRelease_found (q := q) (w := w) (b := b) (p := p) hindices
      rw [← hu] at hfound
      have hui : u.lat.entries.get i = some (releaseEntry s q w p b) := by rw [hfound]; exact Table.get_set_self _ _ _
      have hlen' : (tail.take rest.length).length = rest.length := Nat.succ.inj hlen
      have hrest := ih u (free := tail.take rest.length) (by rw [hfound]; exact congrArg _ (freeIndices_set hindices).symm) hlen'
      have hlt : newCloseNumber s.lat < newCloseNumber u.lat := lt_newCloseNumber hui rfl
      have hnot : i ∉ tail.take rest.length := fun h => hi (List.mem_of_mem_take h)
      rw [List.foldl_cons, ← hu]
      have hkept := (hrest.kept i hnot).trans hui
      refine ⟨?_, ?_, fun j hj => ?_, fun x hx => ?_, List.pairwise_cons.2 ⟨fun j hj e f m n he hf hm hn => ?_, hrest.ascending⟩⟩
      · rw [hrest.queue, hfound]
        exact List.append_assoc _ _ _
      · rw [hrest.mark, hfound]
      · obtain ⟨hji, hj⟩ := not_or.1 (mt List.mem_cons.2 hj)
        rw [hrest.kept j hj, hfound]
        exact Table.get_set_ne _ (Ne.symm hji) _
      · obtain rfl | hx := List.mem_cons.1 hx
        · exact ⟨_, _, hkept, releaseEntry_barrier s q w p b, rfl, le_rfl⟩
        · obtain ⟨e, n, he, hbarrier, hn, hle⟩ := hrest.opened x hx
          exact ⟨e, n, he, hbarrier, hn, hlt.le.trans hle⟩
      · cases hkept.symm.trans he
        cases hm
        exact hlt.trans_le ((hrest.newest hlen' hj hf).2 n hn)

/-! ## The take -/

/-- The barrier of a release take: it waits for the scope as it stands (R57). -/
def releaseBarrier (l : Lat) (q : Request) (k : Fin 8) (r : ReleaseRule) : Barrier :=
  { predecessors := entrySet l (inScope r.scope q.requester), failed := false, suppress := r.suppress, rule := k }

/-- The entries that a release take closes: those of its lines and then those of its scope. -/
def releaseCloses (l : Lat) (q : Request) (r : ReleaseRule) : List (Fin 32) :=
  (requestSpans q).filterMap (fun p => gatheringOf l p.line) ++
    scopeEntries l (inScope r.scope q.requester) ((requestSpans q).filterMap (fun p => gatheringOf l p.line))

theorem nodup_releaseCloses (l : Lat) (q : Request) (r : ReleaseRule) : (releaseCloses l q r).Nodup := by
  refine (nodup_targets l q).append ((List.nodup_finRange 32).filter _) ?_
  exact fun j hown hnamed => (mem_scopeEntries.1 hnamed).2 hown

theorem gathering_releaseCloses {l : Lat} {q : Request} {r : ReleaseRule} :
    ∀ i ∈ releaseCloses l q r, entryIs isGathering (l.entries.get i) = true := fun i hi => by
  obtain hown | hnamed := List.mem_append.1 hi
  · exact gathering_of_target hown
  · obtain ⟨⟨x, hx, hg, -⟩, -⟩ := mem_scopeEntries.1 hnamed
    exact entryIs_iff.2 ⟨x, hx, (isGathering_iff x).2 hg⟩

theorem inScope_closed (scope : Scope) (r : Requester) (e : Entry) (n : Nat) :
    inScope scope r { e with state := .closed, closeNumber := some n, deadline := none } = inScope scope r e := by
  cases scope <;> rfl

/-- A close leaves an entry in a scope or out of it. -/
theorem entryIs_inScope_closeEach (cause : CloseCause) (list : List (Fin 32)) (l : Lat) (scope : Scope) (r : Requester) (j : Fin 32) :
    entryIs (inScope scope r) ((closeEach cause list l).entries.get j) = entryIs (inScope scope r) (l.entries.get j) := by
  obtain h | ⟨-, e, n, he, -, h⟩ := closeEach_get cause list j l
  · rw [h]
  · rw [h, he]
    exact inScope_closed scope r e n

/-- A release take closes its lines and scope, and its barrier entries stand behind them. -/
theorem releaseTake_inOrder {q : Request} {w : Option (Fin 16)} {k : Fin 8} {r : ReleaseRule} {s : State} {free : List (Fin 32)}
    (hfree : free = (s.lat.entries.indices Option.isNone).take (requestSpans q).length)
    (hlen : free.length = (requestSpans q).length) :
    ∃ b, b.rule = k ∧ b.suppress = r.suppress ∧ b.failed = false ∧
      (∀ j, b.predecessors.has j = entryIs (inScope r.scope q.requester) (s.lat.entries.get j)) ∧
      OpensInOrder q w b (requestSpans q) free (closeEach .release (releaseCloses s.lat q r) s.lat)
        (releaseTake q w k r s).lat := by
  obtain ⟨u, hu⟩ : ∃ u, u = closeWhere .release (inScope r.scope q.requester) (releaseOwnLines q s) := ⟨_, rfl⟩
  have hulat : u.lat = closeEach .release (releaseCloses s.lat q r) s.lat := by
    rw [hu]
    exact closeWhere_after .release _ _ (releaseOwnLines_lat q s)
  have hlat : (releaseTake q w k r s).lat =
      ((requestSpans q).foldl (openRelease q w (releaseBarrier u.lat q k r)) u).lat := by
    rw [hu]
    unfold releaseTake
    dsimp only
    split <;> rfl
  have hindices : u.lat.entries.indices Option.isNone = s.lat.entries.indices Option.isNone := by
    refine List.filter_congr fun j _ => ?_
    have hsome := closeEach_isSome .release (releaseCloses s.lat q r) j s.lat
    rw [hulat, ← Option.not_isSome, ← Option.not_isSome, hsome]
  refine ⟨releaseBarrier u.lat q k r, rfl, rfl, rfl, fun j => ?_, ?_⟩
  · refine (has_entrySet _ _ _).trans ?_
    rw [hulat]
    exact entryIs_inScope_closeEach _ _ _ _ _ _
  · rw [hlat, ← hulat]
    exact openReleaseAll_inOrder q w _ _ u (by rw [hindices]; exact hfree) hlen

theorem ClosedInTurn.congr {list : List (Fin 32)} {l l' l'' : Lat} (h : ClosedInTurn list l l')
    (hsame : ∀ i ∈ list, l''.entries.get i = l'.entries.get i) : ClosedInTurn list l l'' := by
  refine ⟨fun i hi e he => ?_, h.ascending.imp_of_mem fun hi hj hlt e f m n he hf => hlt e f m n ?_ ?_⟩
  · rw [hsame i hi]
    exact h.closed i hi e he
  · exact (hsame _ hi).symm.trans he
  · exact (hsame _ hj).symm.trans hf

/-- A GATHERING entry that a release take leaves is on none of its lines and out of its scope. -/
theorem not_releaseCloses {l : Lat} {q : Request} {r : ReleaseRule} (hsound : GatherSound l) {j : Fin 32} {x : Entry}
    (hx : l.entries.get j = some x) (hg : x.state = .gathering) (hj : j ∉ releaseCloses l q r) :
    (∀ p ∈ requestSpans q, x.line ≠ p.line) ∧ inScope r.scope q.requester x = false := by
  obtain ⟨hown, hnamed⟩ := not_or.1 (mt List.mem_append.2 hj)
  refine ⟨fun p hp hline => hown (List.mem_filterMap.2 ⟨p, hp, hline ▸ hsound.gatheringOf hx hg⟩), ?_⟩
  rw [Bool.eq_false_iff]
  exact fun hscope => hnamed (mem_scopeEntries.2 ⟨⟨x, hx, hg, hscope⟩, hown⟩)

/-- Under a release rule the head needs a FREE entry for each piece. -/
theorem hasEntries_release {s : State} {q : Request} {k : Fin 8} (hrule : ruleFor s.ord q = some k)
    (hfree : (requestSpans q).length ≤ freeEntries s.lat) : HasEntries q s :=
  ⟨heldLimitEntries_rule (by rw [hrule]; rfl), (Nat.sub_le _ _).trans hfree⟩

theorem placeWrite_rule {q : Request} {w : Option (Fin 16)} {s : State} {k : Fin 8} {r : ReleaseRule}
    (hrule : ruleFor s.ord q = some k) (hr : s.ord.rules.get k = some r) : placeWrite q w s = releaseTake q w k r s := by
  unfold placeWrite
  rw [hrule]
  dsimp only
  rw [hr]

/-- Settles O12. -/
theorem releaseWriteMakesABarrierEntry : Obligations.ReleaseWriteMakesABarrierEntry := by
  intro time q k r w own named free s hs hlaw hq hk hpass hrule hr hown hnamed hfree hlen hw
  replace hfree : free = (s.lat.entries.indices Option.isNone).take (requestSpans q).length := hfree
  have hcloses : own ++ named = releaseCloses s.lat q r := by rw [hnamed, hown]; rfl
  obtain ⟨a, ha⟩ : ∃ a, a = writeBase q w (headAlone time q s) := ⟨_, rfl⟩
  obtain ⟨hlat, hnu, hord, -, -⟩ := writeBase_same q w (headAlone time q s)
  rw [← ha] at hlat hnu hord
  replace hlat : a.lat = s.lat := hlat
  obtain ⟨b, hk', hsuppress, hfailed, hpredecessors, hopens⟩ := releaseTake_inOrder (s := a) (w := recordOf q w) (k := k) (r := r)
    (by rw [hlat]; exact hfree) hlen
  have hplace : placeWrite q (recordOf q w) (writeBase q w (headAlone time q s)) =
      { writeBase q w (headAlone time q s) with
        lat := (releaseTake q (recordOf q w) k r a).lat, nu := (releaseTake q (recordOf q w) k r a).nu } := by
    rw [← ha, placeWrite_rule (by rw [hord]; exact hrule) (by rw [hord]; exact hr)]
    exact releaseTake_only _ _ _ _ _
  have henough : (requestSpans q).length ≤ freeEntries s.lat := by
    rw [← hlen, hfree]
    exact List.length_take_le' _ _
  obtain ⟨t, hexec, htlat, htnu, hnil, htags, hwrt, hshape⟩ := exec_take_write hs hq hk hpass
    (hasEntries_release (s := headAlone time q s) hrule henough) hw hplace
  rw [releaseTake_nu, hnu] at htnu
  rw [hlat] at hpredecessors
  rw [hlat, ← hcloses, ← htlat] at hopens
  have hnodup := hcloses ▸ nodup_releaseCloses s.lat q r
  have hgathering : ∀ i ∈ own ++ named, entryIs isGathering (s.lat.entries.get i) = true := fun i hi =>
    gathering_releaseCloses i (hcloses ▸ hi)
  obtain ⟨hqueue, hmark, hkept, -, -⟩ := closeEach_law (cause := .release) (by nofun) _ s.lat hnodup hgathering
  have hturn := closeEach_inTurn (cause := .release) (by nofun) _ s.lat hnodup hgathering
  have hclosedFree : ∀ j ∈ free, s.lat.entries.get j = none := fun j hj => by
    rw [hfree] at hj
    exact Option.isNone_iff_eq_none.1 ((Table.mem_indices _ _ _).1 (List.mem_of_mem_take hj))
  have happ : ∀ i ∈ own ++ named, i ∉ free := fun i hi hj => by
    have hgather := hgathering i hi
    rw [hclosedFree i hj] at hgather
    cases hgather
  have holder : ∀ j y m, s.lat.entries.get j = some y → y.closeNumber = some m →
      m < newCloseNumber (closeEach .release (own ++ named) s.lat) := fun j y m hy hm => by
    by_cases hj : j ∈ own ++ named
    · obtain ⟨n, hn, hnewest⟩ := hturn.closed j hj y hy
      exact (hnewest j y m hy hm).trans (lt_newCloseNumber hn rfl)
    · exact lt_newCloseNumber ((hkept j hj).trans hy) hm
  refine ⟨t, b, hexec, hk', hsuppress, hfailed, hpredecessors, fun x hx => ?_, ?_, ?_, fun i hi j hj e f m n he hf hm hn => ?_,
    hopens.ascending, fun j hj => ?_, fun j x hx hg => ?_, ?_, htnu, hnil, htags, hwrt, hshape⟩
  · obtain ⟨e, n, he, hbarrier, hn, hnewest⟩ := hopens.opened x hx
    refine ⟨e, he, hbarrier.state, hbarrier.line, hbarrier.deadline, hbarrier.fill, hbarrier.barrier,
      hbarrier.held.trans (heldOf_recordOf q w), hbarrier.contributors, hbarrier.cells, n, hn, fun j y m hy hm => ?_⟩
    exact (holder j y m hy hm).trans_le hnewest
  · rw [hopens.queue, hqueue, ← List.append_assoc s.lat.issueQueue]
  · exact hturn.congr fun i hi => hopens.kept i (happ i hi)
  · rw [hopens.kept i (happ i hi)] at he
    exact (lt_newCloseNumber he hm).trans_le ((hopens.newest hlen hj hf).2 n hn)
  · obtain ⟨hj, hjfree⟩ := not_or.1 (mt List.mem_append.2 hj)
    rw [hopens.kept j hjfree, hkept j hj]
  · have hjfree : j ∉ free := fun hj => nomatch hg.symm.trans (hopens.newest hlen hj hx).1
    rw [hopens.kept j hjfree] at hx
    have hj : j ∉ own ++ named := fun hj => by
      have hclosed := closeEach_closes .release _ hj s.lat
      rw [hx] at hclosed
      exact absurd ((isGathering_iff x).2 hg) (Bool.eq_false_iff.1 hclosed)
    rw [hkept j hj] at hx
    obtain ⟨hlines, hscope⟩ := not_releaseCloses ((gatherLaw_iff s).1 hlaw) hx hg (hcloses ▸ hj)
    exact ⟨hlines, hscope, hx⟩
  · rw [hopens.mark, hmark]

end Sys2Proof.Machine
end

section
/-! The answers of the management link: an event forms none, and every management frame that is heard forms one (R166, R168). -/

namespace Sys2Proof.Machine

/-! ## Events form no answer -/

@[simp] theorem countDown_answers (status : HeldStatus) (w : Fin 16) (s : State) :
    (countDown status w s).out.answers = s.out.answers := by
  unfold countDown
  split
  · dsimp only
    split <;> rfl
  · rfl

@[simp] theorem countDownHeld_answers (status : HeldStatus) (held : List (Fin 16)) (s : State) :
    (countDownHeld status held s).out.answers = s.out.answers := by
  unfold countDownHeld
  induction held generalizing s with
  | nil => rfl
  | cons w rest ih => rw [List.foldl_cons, ih, countDown_answers]

@[simp] theorem endEntry_answers (i : Fin 32) (kind : EndKind) (s : State) :
    (endEntry i kind s).out.answers = s.out.answers := by
  unfold endEntry
  split
  · unfold completionEffects
    cases kind <;> simp [endFailed, postEnd, setFailureFlags, post]
  · rfl

@[simp] theorem ownerTimeout_answers (owner : Owner) (s : State) : (ownerTimeout owner s).out.answers = s.out.answers := by
  cases owner <;> simp [ownerTimeout]

@[simp] theorem receive_answers (r : MemoryResponse) (s : State) : (receive r s).out.answers = s.out.answers := by
  obtain ⟨i, line, -, -, h⟩ | ⟨i, line, -, -, h⟩ | ⟨c, n, line, -, -, h⟩ | ⟨line, -, -, h⟩ | ⟨purpose, line, -, h⟩ | h :=
    receive_cases r s
  · rw [h]
    cases hdata : readData r with
    | none => simp [fetchReturned_failed hdata, freeSlot]
    | some data =>
      obtain ⟨counters, hcount⟩ := countCorrected_nu data.2 s
      cases he : s.lat.entries.get i with
      | none => rw [fetchReturned_free hdata he, hcount]
      | some e => rw [fetchReturned_merged hdata he, hcount]; rfl
  · rw [h]
    simp [writeReturned, freeSlot]
  · rw [h]
    simp
  · rw [h]
    simp
  · rw [h]
    simp
  · rw [h]
    rfl

@[simp] theorem expireSlot_answers (slot : Fin 16) (s : State) : (expireSlot slot s).out.answers = s.out.answers := by
  obtain ⟨owner, line, sent, deadline, -, h⟩ | h := expireSlot_cases slot s
  · rw [h]
    split <;> simp [toldOrphan]
  · rw [h]

@[simp] theorem discardNext_answers (s : State) : (discardNext s).out.answers = s.out.answers := by
  unfold discardNext
  split
  · rfl
  · dsimp only
    split
    · simp [discardEntry, unqueue]
    · rfl

@[simp] theorem sendReadResponse_answers (s : State) : (sendReadResponse s).out.answers = s.out.answers := by
  unfold sendReadResponse
  split
  · rfl
  · dsimp only
    split
    · simp [answerContext, respondTaken, releaseTag, respond]
    · rfl

@[simp] theorem sendSyncResponse_answers (s : State) : (sendSyncResponse s).out.answers = s.out.answers := by
  unfold sendSyncResponse
  split
  · rfl
  · dsimp only
    split
    · simp [answerSync, respondTaken, releaseTag, respond, clearFailureFlag]
    · rfl

@[simp] theorem acceptHead_answers (s : State) : (acceptHead s).out.answers = s.out.answers := by
  unfold acceptHead
  split <;> rfl

theorem takeServed_answers {q : Request} {s t : State} (h : takeServed q s = some t) : t.out.answers = s.out.answers := by
  obtain ⟨-, c, -, rfl⟩ | ⟨-, -, ⟨-, w, -, rfl⟩ | ⟨-, rfl⟩⟩ | ⟨-, rfl⟩ := takeServed_cases h
  · simp
  · simp
  · simp [takePosted, respond]
  · unfold takeSync
    split <;> rfl

@[simp] theorem takeHead_answers (q : Request) (s : State) : (takeHead q s).out.answers = s.out.answers := by
  obtain ⟨-, h⟩ | ⟨-, h⟩ | ⟨status, cause, -, h⟩ | ⟨-, -, h⟩ | ⟨t, -, hserved, h⟩ := takeHead_cases q s
  · rw [h]
  · simp [h, respond]
  · simp [h, takeRefused, respond, post]
  · simp [h]
  · rw [h]
    simpa using takeServed_answers hserved

@[simp] theorem takeAt_answers (time : Nat) (s : State) : (takeAt time s).out.answers = s.out.answers := by
  unfold takeAt
  dsimp only
  split
  · rfl
  · simp

theorem eventAct_answers {c : Instr} {act : State → State} (h : eventAct c = some act) (s : State) :
    (act s).out.answers = s.out.answers := by
  cases c <;> cases h
  all_goals simp

/-! ## Frames form one answer -/

/-- The statuses with which a frame's command is refused (Table 10-1). -/
def Refuses (status : AnswerStatus) : Prop :=
  status = .refusedMode ∨ status = .refusedArgument ∨ status = .busy ∨ status = .unknownCommand

/-- What a frame's act makes of the state that it finds: one answer, of the command's length with DONE and else the status alone, on
data out, and nothing else where it refuses (R166, R168). -/
structure FormsAnswer (c : Instr) (s t : State) (a : Answer) : Prop where
  answers : t.out.answers = s.out.answers ++ [a]
  held : t.held = s.held
  frame : ∃ removes, t.mli.frame = .answering (answerOut a) removes
  length : (answerBytes a).length = if a.status = .done then doneLength c else 1
  refused : Refuses a.status → t = answerFrame a false s

/-- A status alone that is not DONE. -/
theorem formsAnswer_status {c : Instr} {status : AnswerStatus} (h : status ≠ .done) (s : State) :
    FormsAnswer c s (answer status s) { status := status, fields := .nothing } where
  answers := rfl
  held := rfl
  frame := ⟨false, rfl⟩
  length := (if_neg h).symm
  refused _ := rfl

/-- An answer DONE, before or behind an act that leaves the link alone. -/
theorem formsAnswer_done {c : Instr} {s t : State} {fields : AnswerFields} (hlength : 1 + (fieldBytes fields).length = doneLength c)
    (hanswers : t.out.answers = s.out.answers ++ [{ status := .done, fields := fields }]) (hheld : t.held = s.held)
    (hframe : ∃ removes, t.mli.frame = .answering (answerOut { status := .done, fields := fields }) removes) :
    FormsAnswer c s t { status := .done, fields := fields } where
  answers := hanswers
  held := hheld
  frame := hframe
  length := by
    rw [if_pos rfl, ← hlength, answerBytes, List.length_append]
    rfl
  refused h := by obtain h | h | h | h := h <;> cases h

/-- An answer DONE formed behind an act. -/
theorem formsAnswer_behind {c : Instr} {s u : State} {fields : AnswerFields} (hlength : 1 + (fieldBytes fields).length = doneLength c)
    (hanswers : u.out.answers = s.out.answers) (hheld : u.held = s.held) :
    FormsAnswer c s (answerWith .done fields u) { status := .done, fields := fields } :=
  formsAnswer_done hlength (congrArg (· ++ [_]) hanswers) hheld ⟨false, rfl⟩

/-- An answer STARTED, with what it starts behind it. -/
theorem formsAnswer_started {c : Instr} {s t : State} (hout : t.out = (answer .started s).out) (hmli : t.mli = (answer .started s).mli)
    (hheld : t.held = s.held) : FormsAnswer c s t { status := .started, fields := .nothing } where
  answers := by rw [hout]; rfl
  held := hheld
  frame := ⟨false, by rw [hmli]; rfl⟩
  length := rfl
  refused h := by obtain h | h | h | h := h <;> cases h

/-! ### The lengths of Table 12-6 -/

theorem length_slotViewBytes (v : SlotView) : (slotViewBytes v).length = 6 := by cases v <;> rfl

theorem length_statusBytes (r : StatusRecord) : (statusBytes r).length = 15 := by
  unfold statusBytes
  cases r.running <;> cases r.last <;> simp [oneByte]

theorem length_counterBytes (c : Counters) : (counterBytes c).length = 36 := by simp [counterBytes]

theorem length_regionBytes (r : Region) (n : Nat) : (regionBytes r n).length = 26 := by
  cases r with
  | absent => rfl
  | sweeping info w => simp [regionBytes, oneByte, addressBytes, info.pattern.length_eq]
  | ready info => simp [regionBytes, oneByte, addressBytes, info.pattern.length_eq]

theorem length_ruleBytes (r : Option ReleaseRule) : (ruleBytes r).length = 15 := by
  cases r with
  | none => rfl
  | some rule =>
    obtain ⟨base, limit, requester, scope, suppress, note⟩ := rule
    cases requester <;> rfl

theorem length_slotViews (views : List SlotView) : (views.flatMap slotViewBytes).length = 6 * views.length := by
  induction views with
  | nil => rfl
  | cons v rest ih =>
    rw [List.flatMap_cons, List.length_append, length_slotViewBytes, ih, List.length_cons]
    omega

theorem length_slots (views : Table SlotView 16) : (views.cells.flatMap slotViewBytes).length = 96 := by
  rw [length_slotViews, views.length_eq]

/-! ### The acts -/

theorem startDrain_link (s : State) : (startDrain s).out = (answer .started s).out ∧ (startDrain s).mli = (answer .started s).mli := by
  unfold startDrain
  rw [judgeStarvation, testDrain_only, engineLeaves_only]
  exact ⟨rfl, rfl⟩

theorem warmReset_answers (s : State) : (warmReset s).out.answers = s.out.answers ∧ (warmReset s).held = s.held := by
  rw [warmReset_only, clearedState, abortLong_only]
  exact ⟨rfl, rfl⟩

theorem frameAct_answers {c : Instr} {act : State → State} (h : frameAct c = some act) (s : State) :
    ∃ a, FormsAnswer c s (act s) a := by
  cases c <;> cases h
  case getItem code =>
    unfold getItem
    split
    · exact ⟨_, formsAnswer_behind rfl rfl rfl⟩
    · exact ⟨_, formsAnswer_status (by nofun) s⟩
  case setItem code value =>
    unfold setItem
    split
    · split
      · exact ⟨_, formsAnswer_behind rfl (by simp) (by simp)⟩
      · exact ⟨_, formsAnswer_status (by nofun) s⟩
    · exact ⟨_, formsAnswer_status (by nofun) s⟩
  case readStatus => exact ⟨_, formsAnswer_behind (congrArg (1 + ·) (length_statusBytes _)) rfl rfl⟩
  case readFlags => exact ⟨_, formsAnswer_behind rfl rfl rfl⟩
  case readCounters => exact ⟨_, formsAnswer_behind (congrArg (1 + ·) (length_counterBytes _)) rfl rfl⟩
  case clearCounters => exact ⟨_, formsAnswer_behind rfl rfl rfl⟩
  case readSlots => exact ⟨_, formsAnswer_behind (congrArg (1 + ·) (length_slots _)) rfl rfl⟩
  case defineRegion index base size mode pattern =>
    unfold defineRegion
    dsimp only
    split
    · split
      · refine ⟨_, formsAnswer_behind rfl ?_ ?_⟩
        · split <;> simp
        · split <;> simp
      · exact ⟨_, formsAnswer_status (by nofun) s⟩
    · exact ⟨_, formsAnswer_status (by nofun) s⟩
  case retireRegion index =>
    unfold retireRegion
    split
    · split
      · exact ⟨_, formsAnswer_behind rfl (by simp) (by simp)⟩
      · exact ⟨_, formsAnswer_status (by nofun) s⟩
    · exact ⟨_, formsAnswer_status (by nofun) s⟩
  case readRegion index =>
    unfold readRegion
    split
    · exact ⟨_, formsAnswer_behind (congrArg (1 + ·) (length_regionBytes _ _)) rfl rfl⟩
    · exact ⟨_, formsAnswer_status (by nofun) s⟩
  case setRule index base limit requester scope suppress note =>
    unfold setRule
    split
    · split
      · exact ⟨_, formsAnswer_behind rfl rfl rfl⟩
      · exact ⟨_, formsAnswer_status (by nofun) s⟩
    · exact ⟨_, formsAnswer_status (by nofun) s⟩
  case clearRule index =>
    unfold clearRule
    split
    · split
      · exact ⟨_, formsAnswer_behind rfl rfl rfl⟩
      · exact ⟨_, formsAnswer_status (by nofun) s⟩
    · exact ⟨_, formsAnswer_status (by nofun) s⟩
  case readRule index =>
    unfold readRule
    split
    · exact ⟨_, formsAnswer_behind (congrArg (1 + ·) (length_ruleBytes _)) rfl rfl⟩
    · exact ⟨_, formsAnswer_status (by nofun) s⟩
  case goOnline =>
    unfold goOnline
    split
    · exact ⟨_, formsAnswer_done (fields := .nothing) rfl (by rw [comeOnline_only]; rfl) (by rw [comeOnline_only]; rfl)
        ⟨false, by rw [comeOnline_only]; rfl⟩⟩
    · exact ⟨_, formsAnswer_status (by nofun) s⟩
  case quiesce =>
    unfold quiesce
    split
    · split
      · exact ⟨_, formsAnswer_started (startDrain_link s).1 (startDrain_link s).2 (by simp)⟩
      · exact ⟨_, formsAnswer_status (by nofun) s⟩
    · exact ⟨_, formsAnswer_status (by nofun) s⟩
  case resume =>
    unfold resume
    split
    · exact ⟨_, formsAnswer_done (fields := .nothing) rfl (by rw [comeOnline_only, abandonDrain_only]; rfl)
        (by rw [comeOnline_only, abandonDrain_only]; rfl) ⟨false, by rw [comeOnline_only, abandonDrain_only]; rfl⟩⟩
    · exact ⟨_, formsAnswer_status (by nofun) s⟩
  case flush =>
    unfold flush
    split
    · split
      · exact ⟨_, formsAnswer_started rfl rfl rfl⟩
      · exact ⟨_, formsAnswer_status (by nofun) s⟩
    · exact ⟨_, formsAnswer_status (by nofun) s⟩
  case resetBridge => exact ⟨_, formsAnswer_behind rfl (warmReset_answers s).1 (warmReset_answers s).2⟩
  case reclaimSlots =>
    unfold reclaimSlots
    split
    · exact ⟨_, formsAnswer_status (by nofun) s⟩
    · exact ⟨_, formsAnswer_behind rfl rfl rfl⟩
  case takeNotice =>
    unfold takeNotice
    split
    · exact ⟨_, formsAnswer_status (by nofun) s⟩
    · rename_i n rest _
      exact ⟨_, formsAnswer_done (fields := .notice n) (congrArg (1 + ·) (length_noticeBytes n)) rfl rfl ⟨true, rfl⟩⟩
  case unknownCommand code => exact ⟨_, formsAnswer_status (by nofun) s⟩

theorem encodeFrame_isSome (c : Instr) : (encodeFrame c).isSome = (frameAct c).isSome := by cases c <;> rfl

/-- Data out while an answer is under way (R166). -/
theorem dataOut_answering {t : State} {a : Answer} {removes : Bool} (hheld : t.held = false)
    (hframe : t.mli.frame = .answering (answerOut a) removes) (n k : Nat) :
    dataOut n k t = if k ≤ n then 0xFF#8 else (answerBytes a).getD (k - n - 1) 0xFF#8 := by
  rw [dataOut, hframe]
  obtain hlt | rfl | hgt := Nat.lt_trichotomy k n
  · rw [if_pos (.inr hlt), if_pos hlt.le]
    rfl
  · rw [if_neg (by simp [hheld]), if_pos le_rfl, Nat.sub_self]
    rfl
  · rw [if_neg (by simp [hheld, hgt.le]), if_neg (Nat.not_le.2 hgt)]
    obtain ⟨m, hm⟩ : ∃ m, k - n = m + 1 := ⟨k - n - 1, by omega⟩
    rw [hm]
    rfl

/-- Settles O59. -/
theorem refusalsChangeNoState : Obligations.RefusalsChangeNoState := by
  intro c s₀ s t hfinds hexec
  obtain ⟨hhears, hs⟩ := hfinds
  have hheld : s₀.held = false := by
    unfold ignoresFrame at hhears
    exact (Bool.or_eq_false_iff.1 hhears).1
  have hout : s.out = s₀.out := by simp [hs]
  cases hact : frameAct c with
  | some act =>
    rw [exec_frameAct hact, onFrame_heard ⟨hhears, hs⟩] at hexec
    cases hexec
    obtain ⟨a, ha⟩ := frameAct_answers hact s
    obtain ⟨removes, hframe⟩ := ha.frame
    have hreleased : (act s).held = false := by
      rw [ha.held, hs]
      simpa using hheld
    refine ⟨fun _ => ⟨a, ha.answers, ha.length, fun bytes k _ => dataOut_answering hreleased hframe _ _⟩, fun hnone => ?_,
      fun b hb hrefused => ?_⟩
    · have hsome := encodeFrame_isSome c
      rw [hact] at hsome
      rw [← Option.not_isSome, hsome] at hnone
      cases hnone
    · have hsame : a = b := List.singleton_injective (List.append_cancel_left (ha.answers.symm.trans hb))
      exact hsame ▸ ha.refused (hsame.symm ▸ hrefused)
  | none =>
    have hkept : t.out.answers = s.out.answers := by
      rw [hout]
      obtain ⟨act, hevent, -, rfl⟩ | ⟨act, hframe, -, -⟩ | ⟨-, held, rfl⟩ | ⟨link, frame, broken, rfl⟩ := exec_cases hexec
      · exact eventAct_answers hevent s₀
      · exact nomatch hact.symm.trans hframe
      · rfl
      · rfl
    refine ⟨fun hsome => ?_, fun _ => hkept, fun a ha _ => ?_⟩
    · rw [encodeFrame_isSome, hact] at hsome
      cases hsome
    · have := hkept.symm.trans ha
      simp at this

end Sys2Proof.Machine
end

section
/-! The request parts of the management frames: encoding and decoding agree (R166, R178, Table 12-6). -/

namespace Sys2Proof

/-! ## Numbers and their bytes -/

/-- A field takes no more of its value than its low bytes. -/
theorem bigEndian_congr {k v w : Nat} (h : v % 256 ^ k = w % 256 ^ k) : bigEndian k v = bigEndian k w := by
  induction k with
  | zero => rfl
  | succ k ih =>
    have hhead : v / 256 ^ k % 256 = w / 256 ^ k % 256 := by
      rw [← Nat.mod_mul_right_div_self, ← Nat.mod_mul_right_div_self, ← pow_succ, h]
    have htail : v % 256 ^ k = w % 256 ^ k := by
      have hmod := congrArg (· % 256 ^ k) h
      simpa [pow_succ, Nat.mod_mul_right_mod] using hmod
    rw [bigEndian, bigEndian, ih htail]
    exact congrArg (· :: _) (BitVec.eq_of_toNat_eq (by simpa using hhead))

theorem ofBigEndian_lt (bytes : List Byte) : ofBigEndian bytes < 256 ^ bytes.length := by
  induction bytes with
  | nil => exact Nat.one_pos
  | cons b rest ih =>
    have hb : b.toNat < 256 := b.isLt
    rw [ofBigEndian, List.foldl_cons, foldl_ofBigEndian, List.length_cons, pow_succ]
    nlinarith

/-- The bytes of the number that bytes carry are those bytes. -/
theorem bigEndian_ofBigEndian (bytes : List Byte) : bigEndian bytes.length (ofBigEndian bytes) = bytes := by
  induction bytes with
  | nil => rfl
  | cons b rest ih =>
    have hlt := ofBigEndian_lt rest
    have hsum : ofBigEndian (b :: rest) = 256 ^ rest.length * b.toNat + ofBigEndian rest := by
      rw [ofBigEndian, List.foldl_cons, foldl_ofBigEndian]
      ring
    rw [List.length_cons, bigEndian, hsum, Nat.mul_add_div (Nat.pow_pos (by decide)), Nat.div_eq_of_lt hlt, Nat.add_zero,
      bigEndian_congr (Nat.mul_add_mod _ _ _), ih, BitVec.ofNat_toNat, BitVec.setWidth_eq]

theorem ofNat_ofBigEndian {n : Nat} (v : BitVec n) {k : Nat} (h : 256 ^ k = 2 ^ n) :
    BitVec.ofNat n (ofBigEndian (bigEndian k v.toNat)) = v := by
  rw [ofBigEndian_bigEndian, h]
  exact BitVec.eq_of_toNat_eq (by simp)

theorem bigEndian_ofNat {n : Nat} (bytes : List Byte) (h : 256 ^ bytes.length = 2 ^ n) :
    bigEndian bytes.length (BitVec.ofNat n (ofBigEndian bytes)).toNat = bytes := by
  have hlt := ofBigEndian_lt bytes
  rw [h] at hlt
  rw [BitVec.toNat_ofNat, Nat.mod_eq_of_lt hlt, bigEndian_ofBigEndian]

theorem word32_bigEndian (v : BitVec 32) : BitVec.ofNat 32 (ofBigEndian (bigEndian 4 v.toNat)) = v :=
  ofNat_ofBigEndian v (by norm_num)

theorem word40_bigEndian (v : BitVec 40) : BitVec.ofNat 40 (ofBigEndian (bigEndian 5 v.toNat)) = v :=
  ofNat_ofBigEndian v (by norm_num)

theorem bigEndian_word32 (b3 b2 b1 b0 : Byte) : bigEndian 4 (word32 b3 b2 b1 b0).toNat = [b3, b2, b1, b0] :=
  bigEndian_ofNat [b3, b2, b1, b0] (by norm_num)

theorem bigEndian_word40 (b4 b3 b2 b1 b0 : Byte) : bigEndian 5 (word40 b4 b3 b2 b1 b0).toNat = [b4, b3, b2, b1, b0] :=
  bigEndian_ofNat [b4, b3, b2, b1, b0] (by norm_num)

/-! ## Decoding what is encoded -/

/-- A code that is none of the twenty has a request part of one byte, and no meaning. -/
theorem unknown_code {code : Byte} (h : code ∉ commandCodes) :
    requestLength code = 1 ∧ decodePlain code = .unknownCommand code := by
  simp only [commandCodes, List.mem_cons, List.not_mem_nil, or_false, not_or] at h
  simp only [requestLength, decodePlain, h, if_false, and_self]

theorem wellFormed_unknown (code : Byte) : (Instr.unknownCommand code).wellFormed = true ↔ code ∉ commandCodes := by
  simp [Instr.wellFormed]

theorem decodeFrame_unknown {code : Byte} (h : code ∉ commandCodes) : decodeFrame [code] = some (.unknownCommand code) := by
  obtain ⟨hlen, hplain⟩ := unknown_code h
  simp only [decodeFrame, hlen, hplain, if_true]

theorem decodeFrame_encodeFrame {c : Instr} {bytes : List Byte} (hc : c.wellFormed = true) (h : encodeFrame c = some bytes) :
    decodeFrame bytes = some c := by
  cases c <;> cases h
  case setItem a v => exact congrArg (fun x => some (Instr.setItem a x)) (word32_bigEndian v)
  case defineRegion a b z m p =>
    obtain ⟨cells, hlen⟩ := p
    match cells, hlen with
    | [p0, p1, p2, p3, p4, p5, p6, p7], _ =>
      exact congrArg₂ (fun x y => some (Instr.defineRegion a x y m _)) (word40_bigEndian b) (word32_bigEndian z)
  case setRule a b l q sc su no =>
    exact congrArg₂ (fun x y => some (Instr.setRule a x y q sc su no)) (word40_bigEndian b) (word40_bigEndian l)
  case unknownCommand code => exact decodeFrame_unknown ((wellFormed_unknown code).1 hc)
  all_goals rfl

/-! ## Encoding what is decoded -/

theorem decodePlain_encode {code : Byte} (h : requestLength code = 1) :
    encodeFrame (decodePlain code) = some [code] ∧ (decodePlain code).wellFormed = true := by
  by_cases hcode : code ∈ commandCodes
  · simp only [commandCodes, List.mem_cons, List.not_mem_nil, or_false] at hcode
    obtain rfl | rfl | rfl | rfl | rfl | rfl | rfl | rfl | rfl | rfl | rfl | rfl | rfl | rfl | rfl | rfl | rfl | rfl | rfl | rfl :=
      hcode
    all_goals
      revert h
      decide
  · rw [(unknown_code hcode).2]
    exact ⟨rfl, (wellFormed_unknown code).2 hcode⟩

theorem encodeFrame_decodeFrame {c : Instr} {bytes : List Byte} (h : decodeFrame bytes = some c) :
    encodeFrame c = some bytes ∧ c.wellFormed = true := by
  unfold decodeFrame at h
  split at h
  · rename_i code
    split at h
    · rename_i hlen
      cases h
      exact decodePlain_encode hlen
    · cases h
  · split_ifs at h
    all_goals
      rename_i hcode
      cases h
      subst hcode
      exact ⟨rfl, rfl⟩
  · split at h
    · rename_i code a v3 v2 v1 v0 hcode
      cases h
      subst hcode
      exact ⟨congrArg (fun x => some ([0x02#8, a] ++ x)) (bigEndian_word32 v3 v2 v1 v0), rfl⟩
    · cases h
  · rename_i code a b4 b3 b2 b1 b0 l4 l3 l2 l1 l0 q sc su no
    split at h
    · rename_i hcode
      cases h
      subst hcode
      exact ⟨congrArg₂ (fun x y => some ([0x0B#8, a] ++ x ++ y ++ [q, sc, su, no])) (bigEndian_word40 b4 b3 b2 b1 b0)
        (bigEndian_word40 l4 l3 l2 l1 l0), rfl⟩
    · cases h
  · rename_i code a b4 b3 b2 b1 b0 z3 z2 z1 z0 m p0 p1 p2 p3 p4 p5 p6 p7
    split at h
    · rename_i hcode
      cases h
      subst hcode
      exact ⟨congrArg₂ (fun x y => some ([0x08#8, a] ++ x ++ y ++ [m] ++ [p0, p1, p2, p3, p4, p5, p6, p7]))
        (bigEndian_word40 b4 b3 b2 b1 b0) (bigEndian_word32 z3 z2 z1 z0), rfl⟩
    · cases h
  · cases h

end Sys2Proof
end

section
/-! The layouts of answers and notice records: each field is read back from its place (R178, R179, Tables 12-5 to 12-7). -/

namespace Sys2Proof.Machine

/-! ## Reading a field -/

/-- A field of a part's last bytes. -/
@[simp] theorem fieldAt_last (k v : Nat) : fieldAt (bigEndian k v) 0 k = v % 256 ^ k := by
  simpa using fieldAt_first k v []

/-- A field behind another. -/
@[simp] theorem fieldAt_behind {k place : Nat} (h : k ≤ place) (v : Nat) (rest : List Byte) (n : Nat) :
    fieldAt (bigEndian k v ++ rest) place n = fieldAt rest (place - k) n := by
  rw [fieldAt_append _ _ _ _ (by rwa [length_bigEndian]), length_bigEndian]

@[simp] theorem getElem?_behind {k place : Nat} (h : k ≤ place) (v : Nat) (rest : List Byte) :
    (bigEndian k v ++ rest)[place]? = rest[place - k]? := by
  rw [List.getElem?_append_right (by rwa [length_bigEndian]), length_bigEndian]

@[simp] theorem drop_behind {k place : Nat} (h : k ≤ place) (v : Nat) (rest : List Byte) :
    (bigEndian k v ++ rest).drop place = rest.drop (place - k) := by
  rw [List.drop_append, List.drop_eq_nil_of_le (by rwa [length_bigEndian]), length_bigEndian, List.nil_append]

theorem padTo_eq {n : Nat} {bytes : List Byte} (h : bytes.length ≤ n) : padTo n bytes = bytes ++ List.replicate (n - bytes.length) 0#8 := by
  rw [padTo, List.take_append, List.take_of_length_le h, List.take_replicate, Nat.min_eq_left (Nat.sub_le _ _)]

/-- A set's number bit by bit, from its cells. -/
theorem testBit_foldr (cells : List Bool) {k : Nat} (hk : k < cells.length) :
    (cells.foldr (fun (b : Bool) acc => b.toNat + 2 * acc) 0).testBit k = cells[k] := by
  induction cells generalizing k with
  | nil => cases hk
  | cons b rest ih =>
    rw [List.foldr_cons, Nat.add_comm, ← Nat.bit_val]
    cases k with
    | zero => exact Nat.testBit_bit_zero b _
    | succ k =>
      rw [Nat.testBit_bit_succ, List.getElem_cons_succ]
      exact ih (Nat.lt_of_succ_lt_succ hk)

@[simp] theorem setAt_behind {k place : Nat} (h : k ≤ place) (v : Nat) (rest : List Byte) (who : FinSet 16) :
    SetAt (bigEndian k v ++ rest) place who ↔ SetAt rest (place - k) who := by
  simp only [SetAt, fieldAt_behind h]

@[simp] theorem setAt_first (who : FinSet 16) (rest : List Byte) : SetAt (bigEndian 2 who.toNat ++ rest) 0 who := fun r => by
  have hlow : 256 ^ 2 = 2 ^ 16 := rfl
  rw [fieldAt_first, hlow, Nat.testBit_mod_two_pow, decide_eq_true r.isLt, Bool.true_and]
  exact testBit_foldr who.cells (by rw [who.length_eq]; exact r.isLt)

@[simp] theorem setAt_last (who : FinSet 16) : SetAt (bigEndian 2 who.toNat) 0 who := by
  simpa using setAt_first who []

/-- A number below 256 fits a byte. -/
theorem val_lt_byte {n : Nat} (h : n ≤ 256) (i : Fin n) : i.val < 256 := i.isLt.trans_le h

@[simp] theorem oneByte_eq (v : Nat) : oneByte v = bigEndian 1 v := rfl

@[simp] theorem addressBytes_eq (v : Nat) : addressBytes v = bigEndian 5 v := rfl

/-! ## Notice records -/

/-- A notice record, once its body's fields are known to fit (R179). -/
theorem noticeBytes_eq {n : Notice} (h : (noticeFields n.body).length ≤ 16) : noticeBytes n =
    bigEndian 2 n.seq.toNat ++ (bigEndian 1 (noticeKind n.body) ++
      (noticeFields n.body ++ List.replicate (16 - (noticeFields n.body).length) 0#8)) := by
  rw [noticeBytes, padTo_eq h, oneByte, List.append_assoc]

theorem noticeSeq_laidOut (n : Notice) : fieldAt (noticeBytes n) 0 2 = n.seq.toNat := by
  rw [noticeBytes, List.append_assoc, fieldAt_first]
  exact Nat.mod_eq_of_lt n.seq.isLt

/-- The first bytes of a list, with zeros where it ends. -/
theorem take_zeros (data : List Byte) {k n m : Nat} (hn : k < n) (hm : k < m) :
    ((data ++ List.replicate m 0#8).take n)[k]? = some (data.getD k 0#8) := by
  rw [List.getElem?_take_of_lt hn, List.getD_eq_getElem?_getD]
  by_cases hk : k < data.length
  · rw [List.getElem?_append_left hk, List.getElem?_eq_getElem hk]
    rfl
  · have hle := Nat.not_lt.1 hk
    rw [List.getElem?_append_right hle, List.getElem?_replicate, if_pos (by omega), List.getElem?_eq_none hle]
    rfl

theorem releaseNote_laidOut (seq : BitVec 16) (rule : Fin 8) (r : Requester) (address : BitVec 40) (data : List Byte) :
    NoticeLaidOut (noticeBytes ⟨seq, .releaseNote rule r address data⟩) ⟨seq, .releaseNote rule r address data⟩ := by
  have hbytes : noticeBytes ⟨seq, .releaseNote rule r address data⟩ =
      (bigEndian 2 seq.toNat ++ (bigEndian 1 8 ++ (bigEndian 1 rule.val ++ (bigEndian 1 r.val ++ (bigEndian 5 address.toNat ++
        bigEndian 1 data.length))))) ++ (data ++ List.replicate 16 0#8).take 8 := by
    simp [noticeBytes, noticeFields, noticeKind, padTo, List.take_append, List.take_of_length_le]
  refine ⟨length_noticeBytes _, noticeSeq_laidOut _, ?_⟩
  rw [hbytes]
  refine ⟨by simp, ?_, ?_, ?_, ?_, fun k => ?_⟩
  · simp [val_lt_byte]
  · simp [val_lt_byte]
  · simpa using address.isLt
  · simp
  · rw [List.getElem?_append_right (by simp)]
    simpa using take_zeros data k.isLt (k.isLt.trans (by decide : 8 < 16))

theorem requestRefused_laidOut (seq : BitVec 16) (r : Requester) (tag : Tag) (status : ResponseStatus) (cause : RefusalCause)
    (address : Option (BitVec 40)) : NoticeLaidOut (noticeBytes ⟨seq, .requestRefused r tag status cause address⟩)
      ⟨seq, .requestRefused r tag status cause address⟩ := by
  refine ⟨length_noticeBytes _, noticeSeq_laidOut _, ?_⟩
  rw [noticeBytes_eq (by cases address <;> simp [noticeFields])]
  refine ⟨by simp [noticeKind], ?_, ?_, ?_, ?_, ?_, ?_⟩
  · simp [noticeFields, val_lt_byte]
  · simp [noticeFields, val_lt_byte]
  · cases status <;> simp [noticeFields, responseCode]
  · cases cause <;> simp [noticeFields, refusalCauseCode]
  · cases address with
    | none => simp [noticeFields]
    | some a => simpa [noticeFields] using a.isLt
  · cases address <;> simp [noticeFields, ZeroFrom]

theorem noticeLaidOut (n : Notice) : NoticeLaidOut (noticeBytes n) n := by
  obtain ⟨seq, body⟩ := n
  refine ⟨length_noticeBytes _, noticeSeq_laidOut _, ?_⟩
  cases body
  case releaseNote rule r address data => exact (releaseNote_laidOut seq rule r address data).2.2
  case requestRefused r tag status cause address => exact (requestRefused_laidOut seq r tag status cause address).2.2
  all_goals rw [noticeBytes_eq (by simp [noticeFields])]
  case writeLost line who cause =>
    cases cause <;> simp [noticeFields, noticeKind, ZeroFrom, val_lt_byte, lostCauseCode, lostCauseRule]
  case writeUnconfirmed line who => simp [noticeFields, noticeKind, ZeroFrom]
  case readFault line r tag cause =>
    cases cause <;> simp [noticeFields, noticeKind, ZeroFrom, val_lt_byte, faultCauseCode]
  case lateResponse slot line purpose =>
    cases purpose <;> simp [noticeFields, noticeKind, ZeroFrom, val_lt_byte, purposeCode]
  case strayResponse slot => simp [noticeFields, noticeKind, ZeroFrom, val_lt_byte]
  case memoryStalled => simp [noticeFields, noticeKind, ZeroFrom]
  case sweepFault region line cause =>
    cases cause <;> simp [noticeFields, noticeKind, ZeroFrom, val_lt_byte, faultCauseCode]
  case sweepDone region faults => simpa [noticeFields, noticeKind, ZeroFrom, val_lt_byte] using faults.isLt
  case commandDone command outcome =>
    cases command <;> cases outcome <;> simp [noticeFields, noticeKind, ZeroFrom, longCommandCode, outcomeCode]

end Sys2Proof.Machine
end

section
/-! The layouts of the answers: the status byte, and the fields of each kind of answer in their places (R178, Tables 12-5 and
12-6). -/

namespace Sys2Proof.Machine

theorem answerStatus_laidOut (a : Answer) : fieldAt (answerBytes a) 0 1 = answerCode a.status := by
  rw [answerBytes, oneByte_eq, fieldAt_first]
  cases a.status <;> rfl

/-! ## The status record -/

/-- The code of the running long command, zero for none (Table 12-5). -/
def runningCode (running : Option LongCommand) : Nat := (running.map longCommandCode).getD 0

/-- The codes of the last long command and its outcome, zeros for none (Table 12-5). -/
def lastCodes (last : Option (LongCommand × LongOutcome)) : Nat × Nat :=
  (last.map (fun x => (longCommandCode x.1, outcomeCode x.2))).getD (0, 0)

theorem statusBytes_eq (r : StatusRecord) : statusBytes r =
    bigEndian 1 (modeCode r.mode) ++ (bigEndian 1 (runningCode r.running) ++ (bigEndian 1 (lastCodes r.last).1 ++
      (bigEndian 1 (lastCodes r.last).2 ++ (bigEndian 1 r.noticesHeld ++ (bigEndian 1 r.entriesInUse ++ (bigEndian 1 r.slotsBusy ++
        (bigEndian 1 r.slotsOrphaned ++ (bigEndian 1 r.aheadCount ++ (bigEndian 1 r.brokenFrame.toNat ++
          bigEndian 5 r.partIdent.toNat))))))))) := by
  obtain ⟨mode, running, last, noticesHeld, entriesInUse, slotsBusy, slotsOrphaned, aheadCount, brokenFrame, partIdent⟩ := r
  cases running <;> cases last <;> rfl

theorem statusRecord_laidOut (code : Nat) (r : StatusRecord) :
    FieldsLaidOut (bigEndian 1 code ++ statusBytes r) (.status r) := by
  obtain ⟨mode, running, last, noticesHeld, entriesInUse, slotsBusy, slotsOrphaned, aheadCount, brokenFrame, partIdent⟩ := r
  rw [statusBytes_eq]
  refine ⟨by simp, ?_, ?_, ?_, ?_, by simp, by simp, by simp, by simp, by simp, ?_, by simpa using partIdent.isLt⟩
  · cases mode <;> simp [modeCode]
  · obtain _ | command := running
    · simp [runningCode]
    · cases command <;> simp [runningCode, longCommandCode]
  · obtain _ | ⟨command, outcome⟩ := last
    · simp [lastCodes]
    · cases command <;> simp [lastCodes, longCommandCode]
  · obtain _ | ⟨command, outcome⟩ := last
    · simp [lastCodes]
    · cases outcome <;> simp [lastCodes, outcomeCode]
  · cases brokenFrame <;> simp

/-! ## Counters and flags -/

theorem toNat_lt_word (v : BitVec 32) : v.toNat < 4294967296 := v.isLt

theorem counters_laidOut (code : Nat) (c : Counters) :
    FieldsLaidOut (bigEndian 1 code ++ counterBytes c) (.counters c) := by
  refine ⟨by simp [counterBytes], ?_⟩
  simp [counterBytes, toNat_lt_word]

theorem flags_laidOut (code : Nat) (who : FinSet 16) :
    FieldsLaidOut (bigEndian 1 code ++ bigEndian 2 who.toNat) (.flags who) := by
  refine ⟨by simp, by simp⟩

/-! ## Regions and rules -/

/-- A field behind a pattern. -/
theorem fieldAt_pattern (p : Table Byte 8) {place : Nat} (h : 8 ≤ place) (rest : List Byte) (n : Nat) :
    fieldAt (p.cells ++ rest) place n = fieldAt rest (place - 8) n := by
  rw [fieldAt_append _ _ _ _ (by rwa [p.length_eq]), p.length_eq]

/-- The bytes of a pattern behind the fields before it. -/
theorem getElem?_pattern (code state base size : Nat) (p : Table Byte 8) (rest : List Byte) (k : Fin 8) :
    (bigEndian 1 code ++ (bigEndian 1 state ++ (bigEndian 5 base ++ (bigEndian 4 size ++ (p.cells ++ rest)))))[11 + k.val]? =
      some (p.get k) := by
  have hplace : 11 + k.val - 1 - 1 - 5 - 4 = k.val := by omega
  rw [getElem?_behind (by omega), getElem?_behind (by omega), getElem?_behind (by omega), getElem?_behind (by omega), hplace,
    List.getElem?_append_left (by rw [p.length_eq]; exact k.isLt)]
  exact List.getElem?_eq_getElem _

theorem region_laidOut (code : Nat) (record : Region) (aheadCount : Nat) :
    FieldsLaidOut (bigEndian 1 code ++ regionBytes record aheadCount) (.region record aheadCount) := by
  refine ⟨by simp [length_regionBytes], ?_⟩
  cases record with
  | absent => simp [Region.info, regionBytes, ZeroFrom]
  | sweeping info w =>
    simpa [Region.info, regionBytes, Config.regionUnit, fieldAt_pattern, getElem?_pattern] using info.faults.isLt
  | ready info =>
    simpa [Region.info, regionBytes, Config.regionUnit, fieldAt_pattern, getElem?_pattern] using info.faults.isLt

/-- The code of a requester match, 0xFF for ANY (Table 12-5). -/
def matchCode (requester : Option Requester) : Nat := (requester.map Fin.val).getD 0xFF

theorem ruleBytes_eq (rule : ReleaseRule) : ruleBytes (some rule) =
    bigEndian 1 1 ++ (bigEndian 5 (rule.base / 64) ++ (bigEndian 5 (rule.limit / 64) ++ (bigEndian 1 (matchCode rule.requester) ++
      (bigEndian 1 (scopeCode rule.scope) ++ (bigEndian 1 rule.suppress.toNat ++ bigEndian 1 rule.note.toNat))))) := by
  obtain ⟨base, limit, requester, scope, suppress, note⟩ := rule
  cases requester <;> simp [ruleBytes, matchCode, Config.lineBytes, bigEndian]

theorem rule_laidOut (code : Nat) (rule : Option ReleaseRule) :
    FieldsLaidOut (bigEndian 1 code ++ ruleBytes rule) (.rule rule) := by
  cases rule with
  | none => exact ⟨by simp [ruleBytes], by simp [ruleBytes, ZeroFrom]⟩
  | some rule =>
    obtain ⟨base, limit, requester, scope, suppress, note⟩ := rule
    rw [ruleBytes_eq]
    refine ⟨by simp, by simp, by simp, by simp, ?_, ?_, ?_, ?_⟩
    · cases requester <;> simp [matchCode, val_lt_byte]
    · cases scope <;> simp [scopeCode]
    · cases suppress <;> simp
    · cases note <;> simp

/-! ## Slots -/

/-- A field of a slot's view is read at the view's place. -/
theorem fieldAt_slot (code : Nat) (views : Table SlotView 16) (i : Fin 16) : ∃ rest, ∀ place n,
    fieldAt (bigEndian 1 code ++ views.cells.flatMap slotViewBytes) (place + 1 + 6 * i.val) n =
      fieldAt (slotViewBytes (views.get i) ++ rest) place n := by
  have hi : i.val < views.cells.length := by rw [views.length_eq]; exact i.isLt
  have hsplit : views.cells.flatMap slotViewBytes = (views.cells.take i.val).flatMap slotViewBytes ++
      (slotViewBytes (views.get i) ++ (views.cells.drop (i.val + 1)).flatMap slotViewBytes) := by
    rw [← List.flatMap_cons, Table.get, ← List.drop_eq_getElem_cons hi, ← List.flatMap_append, List.take_append_drop]
  have hfront : ((views.cells.take i.val).flatMap slotViewBytes).length = 6 * i.val := by
    rw [length_slotViews, List.length_take_of_le hi.le]
  refine ⟨(views.cells.drop (i.val + 1)).flatMap slotViewBytes, fun place n => ?_⟩
  rw [hsplit, fieldAt_behind (by omega), fieldAt_append _ _ _ _ (by omega), hfront]
  congr 1
  omega

theorem slots_laidOut (code : Nat) (views : Table SlotView 16) :
    FieldsLaidOut (bigEndian 1 code ++ views.cells.flatMap slotViewBytes) (.slots views) := by
  refine ⟨by rw [List.length_append, length_bigEndian, length_slots], fun i => ?_⟩
  obtain ⟨rest, hrest⟩ := fieldAt_slot code views i
  have hfirst := hrest 0 1
  have hsecond := hrest 1 5
  rw [Nat.zero_add] at hfirst
  rw [hfirst, hsecond]
  cases views.get i with
  | free => simp [slotViewBytes]
  | busy purpose line => cases purpose <;> simp [slotViewBytes, purposeCode]
  | orphaned purpose line => cases purpose <;> simp [slotViewBytes, purposeCode]

/-! ## The obligation -/

theorem fieldsLaidOut (a : Answer) : FieldsLaidOut (answerBytes a) a.fields := by
  obtain ⟨status, fields⟩ := a
  rw [answerBytes, oneByte_eq]
  cases fields with
  | nothing => exact rfl
  | item value => exact ⟨by simp [fieldBytes], by simpa [fieldBytes] using value.isLt⟩
  | status r => exact statusRecord_laidOut _ r
  | counters c => exact counters_laidOut _ c
  | flags who => exact flags_laidOut _ who
  | slots views => exact slots_laidOut _ views
  | region record aheadCount => exact region_laidOut _ record aheadCount
  | rule record => exact rule_laidOut _ record
  | reclaimed n => exact ⟨by simp [fieldBytes], by simp [fieldBytes]⟩
  | notice n =>
    refine ⟨by simp [fieldBytes], ?_⟩
    simpa [fieldBytes] using noticeLaidOut n

/-- Settles O60. -/
theorem framesDecodeAndEncodeAgree : Obligations.FramesDecodeAndEncodeAgree :=
  ⟨fun _ _ => decodeFrame_encodeFrame, fun _ _ => encodeFrame_decodeFrame, fun a => ⟨answerStatus_laidOut a, fieldsLaidOut a⟩⟩

end Sys2Proof.Machine
end
